-- ==== Sys2Proof/Word.lean ====
section
/-! DEFINITION. The words the host and the part exchange, and the identifier ranges of the spec's Table 0-2. -/

namespace Sys2Proof

/-- A word of the 32-bit local bus (spec 00, section 1.1). -/
abbrev Word := BitVec 32

/-- A companded sample, or a byte of the clip store (R124). -/
abbrev Byte := BitVec 8

/-- The tag of a request header, echoed in its reply (Table 10-4). -/
abbrev Tag := BitVec 16

/-- Queue 0..63 (Table 0-2). -/
abbrev QueueId := Fin 64

/-- Agent 0..1023 (Table 0-2). -/
abbrev AgentId := Fin 1024

/-- Call slot 0..2047 (Table 0-2). -/
abbrev CallId := Fin 2048

/-- Call generation 0..31 (Table 0-2). -/
abbrev Generation := Fin 32

/-- Clip 0..255 (Table 0-2). -/
abbrev ClipId := Fin 256

/-- Segment 0..63 (Table 0-2). -/
abbrev SegmentId := Fin 64

/-- Programme, and its broadcast player, 0..15 (Table 0-2). -/
abbrev ProgrammeId := Fin 16

/-- Pool player 0..31 (Table 0-2). -/
abbrev PoolId := Fin 32

/-- A number as a 32-bit word. -/
def word (n : Nat) : Word := BitVec.ofNat 32 n

end Sys2Proof
end

