-- ==== Sys2Proof/Config.lean ====
section
/-! DEFINITION. The constants the spec fixes for the part, and the one order it leaves open. -/

namespace Sys2Proof

/-- The greatest value of T and of every 32-bit counter (spec 00 section 2.6, R168). -/
def Config.maxU32 : Nat := 4294967295

/-- The value a wait saturates at (spec 00 section 2.1). -/
def Config.maxWait : Nat := 65535

/-- The silence code (R124). -/
def Config.silence : Byte := 0x80

/-- The size of the clip store in bytes (R124). -/
def Config.storeBytes : Nat := 4194304

/-- Frame periods in a second (R168). -/
def Config.periodsPerSecond : Nat := 8000

/-- Bit clocks in a frame (section 9.1). -/
def Config.bitClocksPerFrame : Nat := 512

/-- Bytes of host memory one S_LOAD may copy (R135). -/
def Config.maxLoad : Nat := 65536

/-- The end of the host's 32-bit byte addresses (R135, R181). -/
def Config.hostEnd : Nat := 4294967296

/-- The word that stands for an absent item (R186). -/
def Config.absent : Word := 0xFFFFFFFF

/-- FREE VALUE (log entry 9, DESIGN CHOICE): when several pool players end their scripts at one frame, the spec gives
no order in which the ends are taken. Player `k` at frame number `n` is given the rank `scriptEndRank n k`, and the
ends are taken in ascending rank. Nothing can be proved of the ranks. -/
opaque Config.scriptEndRank : Nat → Nat → Nat

end Sys2Proof
end

