-- ==== Sys2Proof/Syntax.lean ====
section
/-! DEFINITION. The commands of the part: one constructor for each row of the opcode table, with the operands the
spec gives it (Table 10-8 for the requests). -/

namespace Sys2Proof

/-- The 23 parameter words of a Q_DEFINE, in the order of Table 10-8. -/
structure QDefineWords where
  queue : Word
  skill : Word
  minLevel : Word
  capacity : Word
  weight : Word
  skillGain : Word
  classBoost : Word
  guard : Word
  policy : Word
  answerTimeout : Word
  wrapBase : Word
  wrapExtensionMax : Word
  overflowTarget : Word
  overflowAfter : Word
  carryWait : Word
  serviceTarget : Word
  serviceGoal : Word
  shortAbandon : Word
  greeting : Word
  programme : Word
  announceMode : Word
  announceInterval : Word
  initialAht : Word
  deriving DecidableEq, Repr

/-- A command. The requests carry the tag of their header and their parameter words; a list request carries its
entry words, its count word being their number (R186). -/
inductive Instr where
  -- power-on, port and registers
  | powerOn
  | fillComplete
  /-- `value` is written to PSTAT; `replyWords` is how many words of a reply in REPLYING have been written when the
  reset is taken (R184). -/
  | portReset (value : Word) (replyWords : Nat)
  | reqaddrWrite (address : Word)
  /-- `word0` is word 0 of the block and `rest` its further words, as far as they have been read. -/
  | fetchRefused (word0 : Word) (rest : List Word)
  /-- The read of word `index` of the block faults; `word0` is its word 0, read before when `index` is above 0. -/
  | fetchBusFault (index : Nat) (word0 : Word)
  | replyComplete
  /-- The write of a reply word faults after `written` words have been written. -/
  | replyWriteFault (written : Nat)
  | takenIndexWrite (value : Word)
  | causeClear (value : Word)
  | undecodedWrite (offset value : Word)
  -- requests
  | setup (tag : Tag) (replyArea ringBase slotCount enables : Word)
  | qDefine (tag : Tag) (params : QDefineWords)
  | qMode (tag : Tag) (queue mode : Word)
  | qQuery (tag : Tag) (queue : Word)
  | qList (tag : Tag) (queue start maximum minWait : Word)
  | qCounters (tag : Tag) (queue clear : Word)
  | cArrive (tag : Tag) (callerTag queue cls : Word)
  | cAnswer (tag : Tag) (handle agent : Word)
  | cEnd (tag : Tag) (handle : Word)
  | cMove (tag : Tag) (handle queue : Word)
  | cClass (tag : Tag) (handle cls : Word)
  | cQuery (tag : Tag) (handle : Word)
  | aLogin (tag : Tag) (agent station initial reason : Word) (skills : List Word)
  | aLogout (tag : Tag) (agent : Word)
  | aSet (tag : Tag) (agent target reason expected : Word)
  | aSkills (tag : Tag) (agent : Word) (skills : List Word)
  | aQuery (tag : Tag) (agent : Word)
  | aCounters (tag : Tag) (agent clear : Word)
  | wExtend (tag : Tag) (agent seconds : Word)
  | wEnd (tag : Tag) (agent : Word)
  | sMap (tag : Tag) (table : List Word)
  | sAttr (tag : Tag) (segment setting : Word)
  | sLoad (tag : Tag) (segment offset count source : Word)
  | clipDefine (tag : Tag) (clip segment start length : Word)
  | progDefine (tag : Tag) (programme enable : Word) (clips : List Word)
  | speechDefine (tag : Tag) (entries : List Word)
  -- the load engine
  /-- The four bytes fetched for the group, the one at the lowest host address first (R137). -/
  | loadGroupWrite (b0 b1 b2 b3 : Byte)
  | loadComplete
  | loadBusFault
  -- highway and time base; a frame sync carries its position on the bit clock
  | frameSync (position : Nat)
  | oscillatorPeriod
  | secondBoundary
  | holdoverEntry
  | holdoverFrameSync (position : Nat)
  | runTimeout
  -- timers of the records
  | offerExpiry (slot : CallId)
  | overflowExpiry (slot : CallId)
  | wrapExpiry (agent : AgentId)
  | announcementDue (slot : CallId)
  deriving DecidableEq, Repr

end Sys2Proof
end

