-- ==== Sys2Proof/Machine/State.lean ====
section
/-! DEFINITION. The state of the QR-2048 as plain data, block by block, with the values every field takes at
power-on. -/

namespace Sys2Proof.Machine

/-! ### Values -/

/-- The four queue modes (Table 1-3). -/
inductive QMode where
  | OPEN | STAGING | DRAINING | SHUT
  deriving DecidableEq, Repr

/-- Agent policies (Table 4-1). -/
inductive AgentPolicy where
  | LONGEST_READY | BEST_LEVEL | LEAST_OCCUPIED
  deriving DecidableEq, Repr

/-- Announce modes (Table 1-1). -/
inductive AnnounceMode where
  | NONE | POSITION | WAIT | BOTH
  deriving DecidableEq, Repr

/-- Call states (R23). -/
inductive CallState where
  | FREE | QUEUED | OFFERED | CONNECTED
  deriving DecidableEq, Repr

/-- Call audio states (R150). -/
inductive AudioState where
  | SILENT | GREETING | MUSIC | ANNOUNCE
  deriving DecidableEq, Repr

/-- Agent states (R48). -/
inductive AgentState where
  | LOGGED_OUT | AWAY | READY | OFFERED | TALKING | WRAP
  deriving DecidableEq, Repr

/-- The change an agent's wrap end applies (R61). -/
inductive PendingChange where
  | NONE
  | AWAY (reason : Fin 16)
  | LOGOUT
  deriving DecidableEq, Repr

/-- Pool player states (Table 8-1). -/
inductive PoolState where
  | IDLE | PLAYING
  deriving DecidableEq, Repr

/-- Highway states (Table 9-2). -/
inductive HighwayState where
  | LOCKED | HOLDOVER
  deriving DecidableEq, Repr

/-- Port states (R171). -/
inductive PortState where
  | INITIALISING | IDLE | FETCHING | LOADING | REPLYING
  deriving DecidableEq, Repr

/-- Reply classes (Table 10-5). -/
inductive ReplyClass where
  | DONE | PARTIAL | REFUSED | FAULT
  deriving DecidableEq, Repr

/-- Reply reasons (Table 10-5). -/
inductive Reason where
  | NONE | CLAMPED | TRUNCATED | BAD_CODE | BAD_LENGTH | BAD_VALUE | BAD_QUEUE | BAD_TABLE | STALE | STATE | MISMATCH
  | TOO_LATE | TABLE_FULL | DIVERTED | STATION_IN_USE | NOT_LOADABLE | BUS_FAULT | NEED_SETUP
  deriving DecidableEq, Repr

/-- The kinds of notice (Table 10-6). -/
inductive NoticeKind where
  | OFFER | WITHDRAW | AUDIO | MOVED | AGENT
  deriving DecidableEq, Repr

/-- A call handle: slot and generation (R21). -/
structure Handle where
  slot : CallId
  gen : Generation
  deriving DecidableEq, Repr

/-- A stored deadline. `held` says that it was set when T already held at its greatest value, from which moment no
deadline expires by the passing of time (R168, log entry 8, DEDUCED). -/
structure Deadline where
  due : Nat
  held : Bool
  deriving DecidableEq, Repr

/-! ### Queue table -/

/-- The parameters Q_DEFINE writes (Table 1-1). -/
structure QueueParams where
  skill : Fin 64
  minLevel : Nat
  capacity : Nat
  weight : Nat
  skillGain : Nat
  classBoost : Nat
  guard : Nat
  policy : AgentPolicy
  answerTimeout : Nat
  wrapBase : Nat
  wrapExtensionMax : Nat
  overflowTarget : Option QueueId
  overflowAfter : Nat
  carryWait : Bool
  serviceTarget : Nat
  serviceGoal : Nat
  shortAbandon : Nat
  greeting : Option ClipId
  programme : Option ProgrammeId
  announceMode : AnnounceMode
  announceInterval : Nat
  deriving DecidableEq, Repr

/-- The twelve counters of a queue (Table 6-1). -/
structure QueueCounters where
  entered : Nat
  answered : Nat
  answeredInTarget : Nat
  abandoned : Nat
  abandonedShort : Nat
  movedOut : Nat
  overflowOut : Nat
  diverted : Nat
  answerWaitTotal : Nat
  handled : Nat
  talkTotal : Nat
  wrapTotal : Nat
  deriving DecidableEq, Repr

/-- A queue record (Table 1-1). The AHT is in sixteenths of a second. -/
structure Queue where
  defined : Bool
  mode : QMode
  params : QueueParams
  aht : Nat
  counters : QueueCounters
  waiting : List CallId
  deriving DecidableEq, Repr

/-- All twelve counters 0. -/
def QueueCounters.zero : QueueCounters := ⟨0, 0, 0, 0, 0, 0, 0, 0, 0, 0, 0, 0⟩

/-- The parameters of an undefined queue (Table 1-2). -/
def QueueParams.reset : QueueParams :=
  { skill := 0, minLevel := 1, capacity := 0, weight := 1, skillGain := 0, classBoost := 0, guard := 0,
    policy := .LONGEST_READY, answerTimeout := 20, wrapBase := 0, wrapExtensionMax := 0, overflowTarget := none,
    overflowAfter := 0, carryWait := false, serviceTarget := 20, serviceGoal := 800, shortAbandon := 0,
    greeting := none, programme := none, announceMode := .NONE, announceInterval := 0 }

/-- A queue record after power-on and after port reset (R2, Table 1-2). -/
def Queue.reset : Queue :=
  { defined := false, mode := .SHUT, params := .reset, aht := 960, counters := .zero, waiting := [] }

/-! ### Call table -/

/-- The pending marks of a call (R189). -/
structure Marks where
  moved : Bool
  audio : Bool
  offer : Bool
  withdraw : Bool
  deriving DecidableEq, Repr

/-- No mark pending. -/
def Marks.empty : Marks := ⟨false, false, false, false⟩

/-- A call record (Table 2-1). -/
structure Call where
  state : CallState
  gen : Generation
  callerTag : Word
  queue : QueueId
  arrival : Nat
  entry : Nat
  cls : Nat
  joinSeq : Nat
  moveCount : Nat
  overflowSpent : Bool
  overflowDue : Bool
  agent : Option AgentId
  savedReadySince : Option Nat
  offerPosted : Bool
  offerDeadline : Option Deadline
  talkStart : Option Nat
  audio : AudioState
  channel : Option Nat
  poolPlayer : Option PoolId
  nextAnnouncement : Option Deadline
  marks : Marks
  movedFrom : Option QueueId
  withdrawnAgent : Option AgentId
  deriving DecidableEq, Repr

/-- A FREE slot of a given generation (Table 2-2). -/
def Call.free (gen : Generation) : Call :=
  { state := .FREE, gen := gen, callerTag := 0, queue := 0, arrival := 0, entry := 0, cls := 0, joinSeq := 0,
    moveCount := 0, overflowSpent := false, overflowDue := false, agent := none, savedReadySince := none,
    offerPosted := false, offerDeadline := none, talkStart := none, audio := .SILENT, channel := none,
    poolPlayer := none, nextAnnouncement := none, marks := .empty, movedFrom := none, withdrawnAgent := none }

/-! ### Agent table -/

/-- A skill id with a level (R46). -/
structure Skill where
  id : Fin 64
  level : Nat
  deriving DecidableEq, Repr

/-- The five work counters of an agent (Table 5-7). -/
structure AgentCounters where
  callsHandled : Nat
  talkSeconds : Nat
  wrapSeconds : Nat
  awaySeconds : Nat
  ronaCount : Nat
  deriving DecidableEq, Repr

/-- All five counters 0. -/
def AgentCounters.zero : AgentCounters := ⟨0, 0, 0, 0, 0⟩

/-- An agent record (Table 3-1). -/
structure Agent where
  state : AgentState
  station : Nat
  skills : List Skill
  awayReason : Fin 16
  readySince : Nat
  call : Option Handle
  wrapQueue : QueueId
  wrapTalk : Nat
  wrapStart : Nat
  wrapDeadline : Deadline
  wrapLimit : Nat
  pending : PendingChange
  stateEntry : Nat
  counters : AgentCounters
  mark : Bool
  deriving DecidableEq, Repr

/-- An agent record after a reset taken at part time `t` (Table 3-2). -/
def Agent.reset (t : Nat) : Agent :=
  { state := .LOGGED_OUT, station := 0, skills := [], awayReason := 0, readySince := 0, call := none,
    wrapQueue := 0, wrapTalk := 0, wrapStart := 0, wrapDeadline := ⟨0, false⟩, wrapLimit := 0, pending := .NONE,
    stateEntry := t, counters := .zero, mark := false }

/-! ### Clip store -/

/-- The attributes of a segment (R131). -/
structure SegmentAttr where
  play : Bool
  load : Bool
  deriving DecidableEq, Repr

/-- A defined entry of the clip table (R133). -/
structure ClipEntry where
  segment : SegmentId
  start : Nat
  length : Nat
  deriving DecidableEq, Repr

/-- A load in progress (R135 to R138), with the tag its reply echoes. -/
structure Load where
  base : Nat
  offset : Nat
  count : Nat
  clamped : Bool
  groups : Nat
  written : Nat
  source : Nat
  tag : Tag
  deriving DecidableEq, Repr

/-- The clip store (R124 to R133). The memory lists the bytes that differ from the silence code, addresses rising. -/
structure ClipStore where
  memory : List Host.Cell
  bounds : Vector Nat 64
  attrs : Vector SegmentAttr 64
  clips : Vector (Option ClipEntry) 256
  load : Option Load
  deriving DecidableEq, Repr

/-- The clip store after power-on (Table 7-1). The bytes before the fill's completion: log entry 10, DESIGN CHOICE. -/
def ClipStore.reset : ClipStore :=
  { memory := [], bounds := Vector.replicate 64 0, attrs := Vector.replicate 64 ⟨false, false⟩,
    clips := Vector.replicate 256 none, load := none }

/-! ### Treatment unit -/

/-- A clip as captured at its clip start (R144). -/
structure CapturedClip where
  segment : SegmentId
  base : Nat
  size : Nat
  start : Nat
  length : Nat
  deriving DecidableEq, Repr

/-- The group a player holds from its last read (R145): its number in the store and its four bytes. -/
structure HeldGroup where
  group : Nat
  b0 : Byte
  b1 : Byte
  b2 : Byte
  b3 : Byte
  deriving DecidableEq, Repr

/-- The playing part of a player record (Table 8-1). -/
structure Player where
  clipIndex : Nat
  clip : Option CapturedClip
  position : Nat
  silentClip : Bool
  held : Option HeldGroup
  deriving DecidableEq, Repr

/-- A player after power-on (Table 8-2). -/
def Player.reset : Player := { clipIndex := 0, clip := none, position := 0, silentClip := false, held := none }

/-- A pool player record (Table 8-1). -/
structure PoolPlayer where
  state : PoolState
  owner : Option Handle
  script : List ClipId
  player : Player
  deriving DecidableEq, Repr

/-- An IDLE pool player (Table 8-2). -/
def PoolPlayer.idle : PoolPlayer := { state := .IDLE, owner := none, script := [], player := .reset }

/-- A programme: enable flag and clip list (R146). -/
structure Programme where
  enabled : Bool
  clips : List ClipId
  deriving DecidableEq, Repr

/-- The treatment unit (R142, R146, R157). -/
structure Treatment where
  broadcast : Vector Player 16
  pool : Vector PoolPlayer 32
  programmes : Vector Programme 16
  speech : Vector (Option ClipId) 31
  deriving DecidableEq, Repr

/-- The treatment unit after power-on (Table 8-2). -/
def Treatment.reset : Treatment :=
  { broadcast := Vector.replicate 16 .reset, pool := Vector.replicate 32 .idle,
    programmes := Vector.replicate 16 ⟨false, []⟩, speech := Vector.replicate 31 none }

/-! ### Highway and time base -/

/-- The time base record (Table 9-2). `run` is none while the regular run is waiting. The period count stands at
8,000 or above only between the counting that reached the second's end and SECOND_BOUNDARY (log entry 4, DEDUCED). -/
structure TimeBase where
  highway : HighwayState
  periodCount : Nat
  time : Nat
  run : Option Nat
  lastSync : Option Nat
  deriving DecidableEq, Repr

/-- The time base after power-on (Table 9-2). -/
def TimeBase.reset : TimeBase :=
  { highway := .HOLDOVER, periodCount := 0, time := 0, run := none, lastSync := none }

/-! ### Request port -/

/-- One flag for each cause, or each enable (R171, R182). -/
structure Causes where
  reply : Bool
  notice : Bool
  clock : Bool
  deriving DecidableEq, Repr

/-- No cause. -/
def Causes.off : Causes := ⟨false, false, false⟩

/-- The setup a successful SETUP stores (R181); the enables stand beside it in the port record. -/
structure Setup where
  replyArea : Nat
  ringBase : Nat
  slotCount : Nat
  deriving DecidableEq, Repr

/-- A reply to be written (R177, Table 10-4). -/
structure Reply where
  cls : ReplyClass
  reason : Reason
  code : BitVec 8
  tag : Tag
  residual : Nat
  payload : List Word
  entries : List Word
  deriving DecidableEq, Repr

/-- The port record (Table 10-1), with the reply in REPLYING. -/
structure Port where
  state : PortState
  address : Word
  overrun : Bool
  lastClass : ReplyClass
  lastReason : Reason
  setup : Option Setup
  enables : Causes
  causes : Causes
  reply : Option Reply
  deriving DecidableEq, Repr

/-- The port after power-on (Table 10-1, R185). -/
def Port.reset : Port :=
  { state := .INITIALISING, address := 0, overrun := false, lastClass := .DONE, lastReason := .NONE, setup := none,
    enables := .off, causes := .off, reply := none }

/-! ### Notice unit -/

/-- A record of the backlog (R190). -/
inductive RecordRef where
  | call (slot : CallId)
  | agent (a : AgentId)
  deriving DecidableEq, Repr

/-- The ring indices and the backlog (R187, R190). -/
structure NoticeUnit where
  posted : BitVec 16
  taken : BitVec 16
  backlog : List RecordRef
  deriving DecidableEq, Repr

/-- The notice unit after power-on (R196). -/
def NoticeUnit.reset : NoticeUnit := { posted := 0, taken := 0, backlog := [] }

/-! ### The whole part -/

/-- One word the part has written into host memory (log entry 7, DESIGN CHOICE). -/
structure BusWrite where
  address : Nat
  data : Word
  deriving DecidableEq, Repr

/-- The state of the part. The last six fields are the model's own, each a DESIGN CHOICE: the waiting commands (log
entry 1), the words written into host memory, newest first, the bus faults the coming notice slots meet, and the host
addresses the load engine has fetched groups from, newest first (log entry 7), the samples of the last frame sent and
the number of frames sent (log entry 16). -/
structure State where
  queues : Vector Queue 64
  joinSeq : Nat
  calls : Vector Call 2048
  agents : Vector Agent 1024
  readyList : List AgentId
  store : ClipStore
  treatment : Treatment
  timeBase : TimeBase
  port : Port
  notices : NoticeUnit
  pending : List Instr
  bus : List BusWrite
  ringFaults : List (Option Nat)
  loadReads : List Nat
  frame : List Byte
  framesSent : Nat
  deriving DecidableEq, Repr

/-- Why the machine stops. The spec stops the part nowhere. -/
inductive Fault where
  /-- Raised by UNDECODED_WRITE alone, when its operand names one of the four registers: the write is then no
  undecoded write, and the row of that register gives its effect. Safe (log entry 17, DESIGN CHOICE). -/
  | decodedOffset
  deriving DecidableEq, Repr

/-- Why a command is refused. -/
inductive Refusal where
  /-- Raised by exec alone, for a row without a meaning; none is left. Safe. -/
  | notModelled (mnemonic : String)
  deriving DecidableEq, Repr

/-- The part right after power-on (R185, section 6 of spec 00), with no command waiting. -/
def State.reset : State :=
  { queues := Vector.replicate 64 .reset
    joinSeq := 0
    calls := Vector.replicate 2048 (.free 0)
    agents := Vector.replicate 1024 (.reset 0)
    readyList := []
    store := .reset
    treatment := .reset
    timeBase := .reset
    port := .reset
    notices := .reset
    pending := []
    bus := []
    ringFaults := []
    loadReads := []
    frame := []
    framesSent := 0 }

end Sys2Proof.Machine
end

