-- ==== Sys2Proof/Machine/Memory.lean ====
section
/-! DEFINITION. The clip store's memory: one byte read and written, one group of four written, and its canonical
form (R124). -/

namespace Sys2Proof.Machine

/-- The byte at a store address. An address that is not listed holds the silence code (R125). -/
def Memory.read : List Host.Cell → Nat → Byte
  | [], _ => Config.silence
  | (k, v) :: rest, a => if k = a then v else Memory.read rest a

/-- Write one byte, keeping addresses rising and listing no silence code. -/
def Memory.write : List Host.Cell → Nat → Byte → List Host.Cell
  | [], a, b => if b = Config.silence then [] else [(a, b)]
  | (k, v) :: rest, a, b =>
    if a < k then (if b = Config.silence then (k, v) :: rest else (a, b) :: (k, v) :: rest)
    else if a = k then (if b = Config.silence then rest else (k, b) :: rest)
    else (k, v) :: Memory.write rest a b

/-- Every listed address is at least `lo`, the addresses rise strictly, and no byte is the silence code. -/
def Memory.wfFrom (lo : Nat) : List Host.Cell → Bool
  | [] => true
  | (k, v) :: rest => decide (lo ≤ k) && decide (v ≠ Config.silence) && Memory.wfFrom (k + 1) rest

/-- The canonical form. -/
def Memory.wf (m : List Host.Cell) : Bool := Memory.wfFrom 0 m

/-- Write the four bytes of a group at the address of its first byte, together (R139). -/
def Memory.writeGroup (m : List Host.Cell) (a : Nat) (b0 b1 b2 b3 : Byte) : List Host.Cell :=
  Memory.write (Memory.write (Memory.write (Memory.write m a b0) (a + 1) b1) (a + 2) b2) (a + 3) b3

/-- Read the group that holds an address, all four bytes together (R124, R139). -/
def Memory.readGroup (m : List Host.Cell) (a : Nat) : HeldGroup :=
  let g := a / 4
  { group := g, b0 := Memory.read m (4 * g), b1 := Memory.read m (4 * g + 1), b2 := Memory.read m (4 * g + 2),
    b3 := Memory.read m (4 * g + 3) }

/-- The byte of a held group at a store address within it. -/
def HeldGroup.byteAt (h : HeldGroup) (a : Nat) : Byte :=
  match a % 4 with
  | 0 => h.b0
  | 1 => h.b1
  | 2 => h.b2
  | _ => h.b3

end Sys2Proof.Machine
end

