-- ==== Sys2Proof/Decode.lean ====
section
/-! DEFINITION. The request block: its header, the words each request spells (Tables 10-4 and 10-8), their reading
back, and the tests of a fetch that need the block alone. The opcode table gives no row bits, so
`decodeTableWord` answers none. -/

namespace Sys2Proof

/-- A request block: the code and tag of its header, and its words 1 onward (Table 10-8). -/
structure Block where
  code : BitVec 8
  tag : Tag
  params : List Word
  deriving DecidableEq, Repr

/-- The length of a block in words, word 0 included (Table 10-4). -/
def Block.length (b : Block) : Nat := b.params.length + 1

/-- Request code: bits 31..24 of word 0 (Table 10-4). -/
def headerCode (w : Word) : BitVec 8 := w.extractLsb' 24 8

/-- Length of the block: bits 22..16 of word 0 (Table 10-4). -/
def headerLength (w : Word) : Nat := (w.extractLsb' 16 7).toNat

/-- Tag: bits 15..0 of word 0 (Table 10-4). -/
def headerTag (w : Word) : Tag := w.extractLsb' 0 16

/-- Word 0 of a block (Table 10-4); bit 23 is not named and written 0. -/
def headerWord (code : BitVec 8) (length : Nat) (tag : Tag) : Word :=
  code ++ (0#1 ++ (BitVec.ofNat 7 length ++ tag))

/-- The words 1 onward of a Q_DEFINE, in the order of Table 10-8. -/
def QDefineWords.toList (p : QDefineWords) : List Word :=
  [p.queue, p.skill, p.minLevel, p.capacity, p.weight, p.skillGain, p.classBoost, p.guard, p.policy, p.answerTimeout,
    p.wrapBase, p.wrapExtensionMax, p.overflowTarget, p.overflowAfter, p.carryWait, p.serviceTarget, p.serviceGoal,
    p.shortAbandon, p.greeting, p.programme, p.announceMode, p.announceInterval, p.initialAht]

/-- A count word and its entries (R186). -/
def countedList (entries : List Word) : List Word := word entries.length :: entries

/-- The block each request spells (Table 10-8); none for the commands that are not requests. -/
def Instr.block : Instr → Option Block
  | .setup t a b c d => some ⟨0x01, t, [a, b, c, d]⟩
  | .qDefine t p => some ⟨0x10, t, p.toList⟩
  | .qMode t q m => some ⟨0x11, t, [q, m]⟩
  | .qQuery t q => some ⟨0x12, t, [q]⟩
  | .qList t q s m w => some ⟨0x13, t, [q, s, m, w]⟩
  | .qCounters t q c => some ⟨0x14, t, [q, c]⟩
  | .cArrive t c q k => some ⟨0x20, t, [c, q, k]⟩
  | .cAnswer t h a => some ⟨0x21, t, [h, a]⟩
  | .cEnd t h => some ⟨0x22, t, [h]⟩
  | .cMove t h q => some ⟨0x23, t, [h, q]⟩
  | .cClass t h c => some ⟨0x24, t, [h, c]⟩
  | .cQuery t h => some ⟨0x25, t, [h]⟩
  | .aLogin t a st i r l => some ⟨0x30, t, a :: st :: i :: r :: countedList l⟩
  | .aLogout t a => some ⟨0x31, t, [a]⟩
  | .aSet t a g r e => some ⟨0x32, t, [a, g, r, e]⟩
  | .aSkills t a l => some ⟨0x33, t, a :: countedList l⟩
  | .aQuery t a => some ⟨0x34, t, [a]⟩
  | .aCounters t a c => some ⟨0x35, t, [a, c]⟩
  | .wExtend t a n => some ⟨0x38, t, [a, n]⟩
  | .wEnd t a => some ⟨0x39, t, [a]⟩
  | .sMap t l => some ⟨0x40, t, l⟩
  | .sAttr t k v => some ⟨0x41, t, [k, v]⟩
  | .sLoad t k o c a => some ⟨0x42, t, [k, o, c, a]⟩
  | .clipDefine t c k s l => some ⟨0x43, t, [c, k, s, l]⟩
  | .progDefine t p e l => some ⟨0x44, t, p :: e :: countedList l⟩
  | .speechDefine t l => some ⟨0x45, t, l⟩
  | .powerOn => none
  | .fillComplete => none
  | .portReset _ _ => none
  | .reqaddrWrite _ => none
  | .fetchRefused _ _ => none
  | .fetchBusFault _ _ => none
  | .replyComplete => none
  | .replyWriteFault _ => none
  | .takenIndexWrite _ => none
  | .causeClear _ => none
  | .undecodedWrite _ _ => none
  | .loadGroupWrite _ _ _ _ => none
  | .loadComplete => none
  | .loadBusFault => none
  | .frameSync _ => none
  | .oscillatorPeriod => none
  | .secondBoundary => none
  | .holdoverEntry => none
  | .holdoverFrameSync _ => none
  | .runTimeout => none
  | .offerExpiry _ => none
  | .overflowExpiry _ => none
  | .wrapExpiry _ => none
  | .announcementDue _ => none

/-- Every word of a block, word 0 first (Table 10-4). -/
def Block.words (b : Block) : List Word := headerWord b.code b.length b.tag :: b.params

/-- The code of SETUP (Table 10-8). -/
def setupCode : BitVec 8 := 0x01

/-- The 26 codes of Table 10-8. -/
def requestCodes : List (BitVec 8) :=
  [0x01, 0x10, 0x11, 0x12, 0x13, 0x14, 0x20, 0x21, 0x22, 0x23, 0x24, 0x25, 0x30, 0x31, 0x32, 0x33, 0x34, 0x35,
    0x38, 0x39, 0x40, 0x41, 0x42, 0x43, 0x44, 0x45]

/-- The length Table 10-8 gives for a list request: `fixed` words with the count word last among them, and then
the entries the count word declares. None when the block ends before its count word. -/
def listLength (fixed : Nat) (params : List Word) : Option Nat :=
  (params[fixed - 2]?).map fun n => fixed + n.toNat

/-- The length Table 10-8 gives for a code, counting for a list request the entries its count word declares
(R174, step 6). -/
def expectedLength (code : BitVec 8) (params : List Word) : Option Nat :=
  match code.toNat with
  | 0x01 => some 5 | 0x10 => some 24 | 0x11 => some 3 | 0x12 => some 2 | 0x13 => some 5 | 0x14 => some 3
  | 0x20 => some 4 | 0x21 => some 3 | 0x22 => some 2 | 0x23 => some 3 | 0x24 => some 3 | 0x25 => some 2
  | 0x30 => listLength 6 params
  | 0x31 => some 2 | 0x32 => some 5
  | 0x33 => listLength 3 params
  | 0x34 => some 2 | 0x35 => some 3 | 0x38 => some 3 | 0x39 => some 2
  | 0x40 => some 33 | 0x41 => some 3 | 0x42 => some 5 | 0x43 => some 5
  | 0x44 => listLength 4 params
  | 0x45 => some 32
  | _ => none

/-- The entries of a counted list, when its count word is their number (R186). -/
def countedEntries : List Word → Option (List Word)
  | n :: entries => if n.toNat = entries.length then some entries else none
  | [] => none

/-- The request a code, a tag and parameter words spell (Table 10-8). -/
def decodeParams (code : BitVec 8) (t : Tag) (params : List Word) : Option Instr :=
  match code.toNat with
  | 0x01 => match params with | [a, b, c, d] => some (.setup t a b c d) | _ => none
  | 0x10 =>
    match params with
    | [a, b, c, d, e, f, g, h, i, j, k, l, m, n, o, p, q, r, s, u, v, w, x] =>
      some (.qDefine t ⟨a, b, c, d, e, f, g, h, i, j, k, l, m, n, o, p, q, r, s, u, v, w, x⟩)
    | _ => none
  | 0x11 => match params with | [a, b] => some (.qMode t a b) | _ => none
  | 0x12 => match params with | [a] => some (.qQuery t a) | _ => none
  | 0x13 => match params with | [a, b, c, d] => some (.qList t a b c d) | _ => none
  | 0x14 => match params with | [a, b] => some (.qCounters t a b) | _ => none
  | 0x20 => match params with | [a, b, c] => some (.cArrive t a b c) | _ => none
  | 0x21 => match params with | [a, b] => some (.cAnswer t a b) | _ => none
  | 0x22 => match params with | [a] => some (.cEnd t a) | _ => none
  | 0x23 => match params with | [a, b] => some (.cMove t a b) | _ => none
  | 0x24 => match params with | [a, b] => some (.cClass t a b) | _ => none
  | 0x25 => match params with | [a] => some (.cQuery t a) | _ => none
  | 0x30 =>
    match params with
    | a :: b :: c :: d :: l => (countedEntries l).map fun e => .aLogin t a b c d e
    | _ => none
  | 0x31 => match params with | [a] => some (.aLogout t a) | _ => none
  | 0x32 => match params with | [a, b, c, d] => some (.aSet t a b c d) | _ => none
  | 0x33 => match params with | a :: l => (countedEntries l).map fun e => .aSkills t a e | _ => none
  | 0x34 => match params with | [a] => some (.aQuery t a) | _ => none
  | 0x35 => match params with | [a, b] => some (.aCounters t a b) | _ => none
  | 0x38 => match params with | [a, b] => some (.wExtend t a b) | _ => none
  | 0x39 => match params with | [a] => some (.wEnd t a) | _ => none
  | 0x40 => if params.length = 32 then some (.sMap t params) else none
  | 0x41 => match params with | [a, b] => some (.sAttr t a b) | _ => none
  | 0x42 => match params with | [a, b, c, d] => some (.sLoad t a b c d) | _ => none
  | 0x43 => match params with | [a, b, c, d] => some (.clipDefine t a b c d) | _ => none
  | 0x44 => match params with | a :: b :: l => (countedEntries l).map fun e => .progDefine t a b e | _ => none
  | 0x45 => if params.length = 31 then some (.speechDefine t params) else none
  | _ => none

/-- The request the words of a block spell: the block ends where its header says, its length lies in 1..64, and its
code and length are of Table 10-8 (R174, R186). None otherwise. -/
def decodeBlock : List Word → Option Instr
  | [] => none
  | w0 :: rest =>
    if headerLength w0 = rest.length + 1 ∧ headerLength w0 ≤ 64 then
      decodeParams (headerCode w0) (headerTag w0) rest
    else none

/-- The offsets of the four registers in the window (Table 10-2). -/
def registerOffsets : List Word := [0x0, 0x4, 0x8, 0xC]

/-- The command a word spells by the table's bits. The table gives no row any bits, so none. -/
def decodeTableWord (_nbits _w : Nat) : Option Instr := none

end Sys2Proof
end

