-- ==== Sys2Proof/Machine/Operands.lean ====
section
/-! DEFINITION. How parameter words are read and reply words are written: identifiers, handles, enumerations,
optional parameters, lists and clamps (R46, R186, Tables 1-6, 10-4 and 10-7). -/

namespace Sys2Proof.Machine

/-- An identifier below `n`, taken from the whole word; none outside its range (spec 00 section 2.2, R186). -/
def idOf (n : Nat) (w : Word) : Option (Fin n) :=
  if h : w.toNat < n then some ⟨w.toNat, h⟩ else none

/-- An optional identifier: absent, in range, or out of range (none) (R186). -/
def optIdOf (n : Nat) (w : Word) : Option (Option (Fin n)) :=
  if w = Config.absent then some none else (idOf n w).map some

/-- A yes-or-no parameter is no when 0 and yes otherwise (R186). -/
def flagOf (w : Word) : Bool := w != 0

/-- A handle: slot in bits 15..5, generation in bits 4..0, the bits above 15 not examined (R186). -/
def handleOf (w : Word) : Handle :=
  { slot := ⟨w.toNat / 32 % 2048, Nat.mod_lt _ (by decide)⟩, gen := ⟨w.toNat % 32, Nat.mod_lt _ (by decide)⟩ }

/-- The word of a handle (R186). -/
def Handle.word (h : Handle) : Word := Sys2Proof.word (h.slot.val * 32 + h.gen.val)

/-- Queue mode codes (Table 10-7). -/
def modeOf (w : Word) : Option QMode :=
  match w.toNat with
  | 0 => some .OPEN
  | 1 => some .STAGING
  | 2 => some .DRAINING
  | 3 => some .SHUT
  | _ => none

/-- The code of a queue mode (Table 10-7). -/
def QMode.code : QMode → Nat
  | .OPEN => 0
  | .STAGING => 1
  | .DRAINING => 2
  | .SHUT => 3

/-- Agent policy codes (Table 10-7). -/
def policyOf (w : Word) : Option AgentPolicy :=
  match w.toNat with
  | 0 => some .LONGEST_READY
  | 1 => some .BEST_LEVEL
  | 2 => some .LEAST_OCCUPIED
  | _ => none

/-- Announce mode codes (Table 10-7). -/
def announceModeOf (w : Word) : Option AnnounceMode :=
  match w.toNat with
  | 0 => some .NONE
  | 1 => some .POSITION
  | 2 => some .WAIT
  | 3 => some .BOTH
  | _ => none

/-- The code of a call state (Table 10-7). -/
def CallState.code : CallState → Nat
  | .FREE => 0
  | .QUEUED => 1
  | .OFFERED => 2
  | .CONNECTED => 3

/-- The code of an agent state, and its bit of an expected-state set (Table 10-7). -/
def AgentState.code : AgentState → Nat
  | .LOGGED_OUT => 0
  | .AWAY => 1
  | .READY => 2
  | .OFFERED => 3
  | .TALKING => 4
  | .WRAP => 5

/-- The code of an audio state (Table 10-7). -/
def AudioState.code : AudioState → Nat
  | .SILENT => 0
  | .GREETING => 1
  | .MUSIC => 2
  | .ANNOUNCE => 3

/-- A pending change as one word: kind in bits 7..0, reason in bits 15..8 (R186, Table 10-7). -/
def PendingChange.word : PendingChange → Word
  | .NONE => 0
  | .AWAY r => Sys2Proof.word (1 + 256 * r.val)
  | .LOGOUT => 2

/-- Where A_LOGIN and A_SET send an agent: READY, or AWAY with a host's reason 0..14 (R52, Table 10-7). The reason
word is examined with AWAY only (section 10.9). -/
def targetOf (target reason : Word) : Option (Option (Fin 16)) :=
  match target.toNat with
  | 0 => some none
  | 1 => if h : reason.toNat < 15 then some (some ⟨reason.toNat, Nat.lt_succ_of_lt h⟩) else none
  | _ => none

/-- The expected-state set holds a state: the state's bit of bits 5..0 (R56, Table 10-7). -/
def expects (expected : Word) (st : AgentState) : Bool := expected.getLsbD st.code

/-- No state is selected in the expected-state set; bits above 5 are not examined (R56, R186). -/
def expectsNone (expected : Word) : Bool := expected.extractLsb' 0 6 == 0

/-- A skill entry: id in bits 15..8, level in bits 7..0 (R186), in range (R46). -/
def skillOf (w : Word) : Option Skill :=
  let id := (w.extractLsb' 8 8).toNat
  let level := (w.extractLsb' 0 8).toNat
  if h : id < 64 then if 1 ≤ level ∧ level ≤ 9 then some ⟨⟨id, h⟩, level⟩ else none else none

/-- The word of a skill entry (R186). -/
def Skill.word (k : Skill) : Word := Sys2Proof.word (k.id.val * 256 + k.level)

/-- Every word of a list read by `f`; none when one of them is not readable. -/
def allOf {α : Type} (f : Word → Option α) : List Word → Option (List α)
  | [] => some []
  | w :: ws =>
    match f w, allOf f ws with
    | some x, some xs => some (x :: xs)
    | _, _ => none

/-- A skill list is valid: 0..8 entries in range, no skill id twice (R46). -/
def skillsOf (ws : List Word) : Option (List Skill) :=
  if ws.length ≤ 8 then
    match allOf skillOf ws with
    | some l => if (l.map (·.id)).Nodup then some l else none
    | none => none
  else none

/-- A clip list of a programme: at most 8 entries, each in 0..255 (R148). -/
def clipsOf (ws : List Word) : Option (List ClipId) :=
  if ws.length ≤ 8 then allOf (idOf 256) ws else none

/-- A segment setting: OFF, LOAD-only, PLAY-only or PLAY+LOAD (Table 10-7). -/
def settingOf (w : Word) : Option SegmentAttr :=
  match w.toNat with
  | 0 => some ⟨false, false⟩
  | 1 => some ⟨false, true⟩
  | 2 => some ⟨true, false⟩
  | 3 => some ⟨true, true⟩
  | _ => none

/-- The code of a segment setting (Table 10-7). -/
def SegmentAttr.code (a : SegmentAttr) : Nat := (if a.play then 2 else 0) + (if a.load then 1 else 0)

/-- The 64 boundaries of an S_MAP: B(2i) in bits 15..0 and B(2i + 1) in bits 31..16 of each word (Table 10-8). -/
def boundsOf (ws : List Word) : List Nat :=
  ws.flatMap fun w => [(w.extractLsb' 0 16).toNat, (w.extractLsb' 16 16).toNat]

/-- The causes named by bits 0, 1 and 2 of a word (Table 10-4). -/
def causesOf (w : Word) : Causes := ⟨w.getLsbD 0, w.getLsbD 1, w.getLsbD 2⟩

/-- A number, or absent as 0xFFFFFFFF (R186). -/
def optWord : Option Nat → Word
  | some n => word n
  | none => Config.absent

/-- A yes-or-no item of a reply as a payload word: 1 for yes and set, 0 for no and clear. The spec codes such items in
requests only (log entry 13, DESIGN CHOICE). -/
def flagWord (b : Bool) : Word := if b then 1 else 0

/-- The code of a reply class (Table 10-5). -/
def ReplyClass.code : ReplyClass → Nat
  | .DONE => 0
  | .PARTIAL => 1
  | .REFUSED => 2
  | .FAULT => 3

/-- The code of a reason (Table 10-5); code 9 is not given. -/
def Reason.code : Reason → Nat
  | .NONE => 0
  | .CLAMPED => 1
  | .TRUNCATED => 2
  | .BAD_CODE => 3
  | .BAD_LENGTH => 4
  | .BAD_VALUE => 5
  | .BAD_QUEUE => 6
  | .BAD_TABLE => 7
  | .STALE => 8
  | .STATE => 10
  | .MISMATCH => 11
  | .TOO_LATE => 12
  | .TABLE_FULL => 13
  | .DIVERTED => 14
  | .STATION_IN_USE => 15
  | .NOT_LOADABLE => 16
  | .BUS_FAULT => 17
  | .NEED_SETUP => 18

/-- The code of a notice kind (Table 10-6). -/
def NoticeKind.code : NoticeKind → Nat
  | .OFFER => 1
  | .WITHDRAW => 2
  | .AUDIO => 3
  | .MOVED => 4
  | .AGENT => 5

/-! ### Clamps -/

/-- A value clamped to `lo..hi` (spec 00 section 2.5). -/
def clamp (lo hi n : Nat) : Nat := max lo (min hi n)

/-- A value of which 0 is kept and any other is clamped to `lo..hi` (Table 1-6: guard, overflow after, announce
interval). -/
def clampOrOff (lo hi n : Nat) : Nat := if n = 0 then 0 else clamp lo hi n

/-- What a Q_DEFINE gives after its tests and clamps: the parameters, the initial AHT in seconds, and the mask of
the clamped parameters by request word (R12, R13, R186). -/
structure QDefinition where
  params : QueueParams
  initialAht : Nat
  mask : Nat
  deriving DecidableEq, Repr

/-- The mask of clamped parameters: bit i is 1 when request word i, given `given`, was stored as `stored` (R186). -/
def clampMask : List (Nat × Nat × Nat) → Nat
  | [] => 0
  | (i, given, stored) :: rest => (if given = stored then 0 else 2 ^ i) + clampMask rest

/-- The tests of R12 that name words with a code or an identifier; none is refused BAD_VALUE. -/
def qDefineIds (q : QueueId) (p : QDefineWords) :
    Option (Fin 64 × AgentPolicy × Option QueueId × Option ClipId × Option ProgrammeId × AnnounceMode) :=
  match idOf 64 p.skill, policyOf p.policy, optIdOf 64 p.overflowTarget, optIdOf 256 p.greeting,
      optIdOf 16 p.programme, announceModeOf p.announceMode with
  | some skill, some policy, some target, some greeting, some programme, some mode =>
    if 1 ≤ p.minLevel.toNat ∧ p.minLevel.toNat ≤ 9 ∧ target ≠ some q then
      some (skill, policy, target, greeting, programme, mode)
    else none
  | _, _, _, _, _, _ => none

/-- A Q_DEFINE of queue `q` with its tests (R12) and clamps (R13, Table 1-6). The initial AHT is clamped at a first
definition alone (R14). -/
def qDefineOf (q : QueueId) (defined : Bool) (p : QDefineWords) : Option QDefinition :=
  match qDefineIds q p with
  | none => none
  | some (skill, policy, target, greeting, programme, mode) =>
    let params : QueueParams :=
      { skill := skill
        minLevel := p.minLevel.toNat
        capacity := clamp 0 2048 p.capacity.toNat
        weight := clamp 1 32 p.weight.toNat
        skillGain := clamp 0 255 p.skillGain.toNat
        classBoost := clamp 0 600 p.classBoost.toNat
        guard := clampOrOff 10 3600 p.guard.toNat
        policy := policy
        answerTimeout := clamp 5 120 p.answerTimeout.toNat
        wrapBase := clamp 0 900 p.wrapBase.toNat
        wrapExtensionMax := clamp 0 1800 p.wrapExtensionMax.toNat
        overflowTarget := target
        overflowAfter := clampOrOff 5 3600 p.overflowAfter.toNat
        carryWait := flagOf p.carryWait
        serviceTarget := clamp 1 600 p.serviceTarget.toNat
        serviceGoal := clamp 0 1000 p.serviceGoal.toNat
        shortAbandon := clamp 0 60 p.shortAbandon.toNat
        greeting := greeting
        programme := programme
        announceMode := mode
        announceInterval := clampOrOff 20 600 p.announceInterval.toNat }
    let aht := if defined then p.initialAht.toNat else clamp 1 3600 p.initialAht.toNat
    some
      { params := params
        initialAht := aht
        mask := clampMask
          [(4, p.capacity.toNat, params.capacity), (5, p.weight.toNat, params.weight),
            (6, p.skillGain.toNat, params.skillGain), (7, p.classBoost.toNat, params.classBoost),
            (8, p.guard.toNat, params.guard), (10, p.answerTimeout.toNat, params.answerTimeout),
            (11, p.wrapBase.toNat, params.wrapBase), (12, p.wrapExtensionMax.toNat, params.wrapExtensionMax),
            (14, p.overflowAfter.toNat, params.overflowAfter), (16, p.serviceTarget.toNat, params.serviceTarget),
            (17, p.serviceGoal.toNat, params.serviceGoal), (18, p.shortAbandon.toNat, params.shortAbandon),
            (22, p.announceInterval.toNat, params.announceInterval), (23, p.initialAht.toNat, aht)] }

end Sys2Proof.Machine
end

