-- ==== Sys2Proof/Machine/Ops.lean ====
section
/-! DEFINITION. The named operations over the records: access by identifier, waits, deadlines, counters, the ordered
lists, and the outcome of a request at the port. -/

namespace Sys2Proof.Machine

/-! ### Access to the records -/

/-- The record of a queue. -/
def State.queue (s : State) (q : QueueId) : Queue := s.queues[q.val]

/-- The record of a call slot. -/
def State.call (s : State) (k : CallId) : Call := s.calls[k.val]

/-- The record of an agent. -/
def State.agent (s : State) (a : AgentId) : Agent := s.agents[a.val]

/-- The record of a pool player. -/
def State.pool (s : State) (p : PoolId) : PoolPlayer := s.treatment.pool[p.val]

/-- The attributes of a segment (R131). -/
def ClipStore.attr (st : ClipStore) (k : SegmentId) : SegmentAttr := st.attrs[k.val]

/-- The clip table's entry of a clip (R133). -/
def ClipStore.clip (st : ClipStore) (c : ClipId) : Option ClipEntry := st.clips[c.val]

/-- Write the record of a queue. -/
def State.setQueue (s : State) (q : QueueId) (r : Queue) : State :=
  { s with queues := s.queues.set q.val r }

/-- Write the record of a call slot. -/
def State.setCall (s : State) (k : CallId) (c : Call) : State :=
  { s with calls := s.calls.set k.val c }

/-- Write the record of an agent. -/
def State.setAgent (s : State) (a : AgentId) (g : Agent) : State :=
  { s with agents := s.agents.set a.val g }

/-- Write the record of a pool player. -/
def State.setPool (s : State) (p : PoolId) (r : PoolPlayer) : State :=
  { s with treatment := { s.treatment with pool := s.treatment.pool.set p.val r } }

/-- Write the waiting list of a queue. -/
def State.setWaiting (s : State) (q : QueueId) (l : List CallId) : State :=
  s.setQueue q { s.queue q with waiting := l }

/-- Write the counters of a queue. -/
def State.setCounters (s : State) (q : QueueId) (c : QueueCounters) : State :=
  s.setQueue q { s.queue q with counters := c }

/-- Write the ready list. -/
def State.setReadyList (s : State) (l : List AgentId) : State := { s with readyList := l }

/-- Write the join sequence counter. -/
def State.setJoinSeq (s : State) (n : Nat) : State := { s with joinSeq := n }

/-- Write the clip store. -/
def State.setStore (s : State) (st : ClipStore) : State := { s with store := st }

/-- Write the treatment unit. -/
def State.setTreatment (s : State) (t : Treatment) : State := { s with treatment := t }

/-- Write the time base. -/
def State.setTimeBase (s : State) (b : TimeBase) : State := { s with timeBase := b }

/-- Write the port record. -/
def State.setPort (s : State) (p : Port) : State := { s with port := p }

/-- Write the notice unit's record. -/
def State.setNotices (s : State) (n : NoticeUnit) : State := { s with notices := n }

/-- Write the output of the highway: the last frame's samples and the count of frames sent. -/
def State.setFrame (s : State) (samples : List Byte) (n : Nat) : State :=
  { s with frame := samples, framesSent := n }

/-- Note that the load engine has fetched from a host address (log entry 7, DESIGN CHOICE). -/
def State.noteLoadRead (s : State) (a : Nat) : State := { s with loadReads := a :: s.loadReads }

/-- Part time, T (spec 00 section 2.1). -/
def State.now (s : State) : Nat := s.timeBase.time

/-! ### Counters, waits and deadlines -/

/-- A sum saturated as every counter is (spec 00 section 2.6). -/
def satAdd (a b : Nat) : Nat := min (a + b) Config.maxU32

/-- T minus an entry time, saturated at 65,535 (spec 00 section 2.1, R27). -/
def waitSince (t entry : Nat) : Nat := min (t - entry) Config.maxWait

/-- The raw wait of a call in QUEUED or OFFERED (R27). -/
def State.rawWait (s : State) (k : CallId) : Nat := waitSince s.now (s.call k).entry

/-- A deadline set at part time `t`, saturated at the greatest value (R168). -/
def deadlineAt (t due : Nat) : Deadline := { due := min due Config.maxU32, held := decide (Config.maxU32 ≤ t) }

/-- T has reached a deadline, and the deadline was set before T held at its greatest value (R168). -/
def Deadline.reached (d : Deadline) (t : Nat) : Bool := !d.held && decide (d.due ≤ t)

/-! ### Modes, occupancy and the keyed waiting list -/

/-- The mode's ACCEPT attribute (R3, Table 1-3). -/
def QMode.accept : QMode → Bool
  | .OPEN => true
  | .STAGING => true
  | .DRAINING => false
  | .SHUT => false

/-- The mode's DISTRIBUTE attribute (R3, Table 1-3). -/
def QMode.distribute : QMode → Bool
  | .OPEN => true
  | .STAGING => false
  | .DRAINING => true
  | .SHUT => false

/-- The number of a queue's calls under offer. -/
def State.offeredCount (s : State) (q : QueueId) : Nat :=
  s.calls.toList.countP fun c => c.state == .OFFERED && c.queue == q

/-- The depth of a queue: the length of its waiting list (section 1.1). -/
def State.depth (s : State) (q : QueueId) : Nat := (s.queue q).waiting.length

/-- The occupancy of a queue: its calls in QUEUED or OFFERED (section 1.1, R7). -/
def State.occupancy (s : State) (q : QueueId) : Nat := s.depth q + s.offeredCount q

/-- The effective entry time of a call under a class boost: signed, computed without loss (R25). -/
def Call.effectiveEntry (c : Call) (boost : Nat) : Int := (c.entry : Int) - (c.cls * boost : Nat)

/-- Call `a` stands no later than call `b` in a list kept under a class boost: a lower effective entry time, or an
equal one and a join sequence lower than or equal to it (R25). -/
def notAfter (boost : Nat) (a b : Call) : Bool :=
  decide (a.effectiveEntry boost < b.effectiveEntry boost) ||
    (decide (a.effectiveEntry boost = b.effectiveEntry boost) && decide (a.joinSeq ≤ b.joinSeq))

/-- Put `x` before the first entry at which `stop` holds, at the end when there is none. -/
def insertWhere {α : Type} (stop : α → Bool) (x : α) : List α → List α
  | [] => [x]
  | y :: ys => if stop y then x :: y :: ys else y :: insertWhere stop x ys

/-- A list with call `k` at its keyed place: behind every entry that stands no later than it, before every other
(R25). -/
def State.keyedInsert (s : State) (boost : Nat) (k : CallId) (l : List CallId) : List CallId :=
  insertWhere (fun y => !notAfter boost (s.call y) (s.call k)) k l

/-- Call `k` takes its keyed place in the waiting list of queue `q` (R25). -/
def State.enterList (s : State) (q : QueueId) (k : CallId) : State :=
  s.setWaiting q (s.keyedInsert (s.queue q).params.classBoost k (s.queue q).waiting)

/-- Call `k` leaves the waiting list of queue `q`; the calls behind it move up (R24). -/
def State.leaveList (s : State) (q : QueueId) (k : CallId) : State :=
  s.setWaiting q ((s.queue q).waiting.erase k)

/-- The waiting list of a queue put in the order of R25, entries of equal key keeping their relative order (R15,
R25, log entry 23, DEDUCED). -/
def State.resort (s : State) (q : QueueId) : State :=
  s.setWaiting q
    ((s.queue q).waiting.foldl (fun l k => s.keyedInsert (s.queue q).params.classBoost k l) [])

/-- A call's 1-based position in its queue's waiting list; 0 when it is not in it (R24). -/
def State.position (s : State) (k : CallId) : Nat :=
  let l := (s.queue (s.call k).queue).waiting
  if k ∈ l then l.idxOf k + 1 else 0

/-! ### Handles and slots -/

/-- The live call a handle names; none when the handle is stale (R21). -/
def State.live (s : State) (h : Handle) : Option CallId :=
  if (s.call h.slot).state ≠ .FREE ∧ (s.call h.slot).gen = h.gen then some h.slot else none

/-- The handle of the call in a slot (R21). -/
def State.handle (s : State) (k : CallId) : Handle := ⟨k, (s.call k).gen⟩

/-- The lowest-numbered FREE slot (R21). -/
def State.freeSlot (s : State) : Option CallId :=
  (List.finRange 2048).find? fun k => (s.call k).state == .FREE

/-! ### Counting -/

/-- Change the counters of a queue. -/
def State.count (s : State) (q : QueueId) (f : QueueCounters → QueueCounters) : State :=
  s.setCounters q (f (s.queue q).counters)

/-- A call joined the queue by admission. -/
def QueueCounters.addEntered (c : QueueCounters) : QueueCounters := { c with entered := satAdd c.entered 1 }

/-- The queue refused an admission test (R11). -/
def QueueCounters.addDiverted (c : QueueCounters) : QueueCounters := { c with diverted := satAdd c.diverted 1 }

/-- A call of the queue was abandoned; `short` when its raw wait was below the short abandon (R31, R32). -/
def QueueCounters.addAbandoned (c : QueueCounters) (short : Bool) : QueueCounters :=
  { c with
    abandoned := satAdd c.abandoned 1
    abandonedShort := if short then satAdd c.abandonedShort 1 else c.abandonedShort }

/-- A call left the queue for another, `overflow` when by its overflow timer (R35, R39). -/
def QueueCounters.addMovedOut (c : QueueCounters) (overflow : Bool) : QueueCounters :=
  { c with
    movedOut := satAdd c.movedOut 1
    overflowOut := if overflow then satAdd c.overflowOut 1 else c.overflowOut }

/-- A call of the queue was answered after `wait` seconds, `inTarget` when within the service target (R82). -/
def QueueCounters.addAnswered (c : QueueCounters) (inTarget : Bool) (wait : Nat) : QueueCounters :=
  { c with
    answered := satAdd c.answered 1
    answeredInTarget := if inTarget then satAdd c.answeredInTarget 1 else c.answeredInTarget
    answerWaitTotal := if inTarget then satAdd c.answerWaitTotal wait else c.answerWaitTotal }

/-- A wrap of the queue ended with `t` talk and `w` wrap seconds (R100). -/
def QueueCounters.addHandled (c : QueueCounters) (t w : Nat) : QueueCounters :=
  { c with handled := satAdd c.handled 1, talkTotal := satAdd c.talkTotal t, wrapTotal := satAdd c.wrapTotal w }

/-! ### The outcome of a request -/

/-- What a request answers at its owning block: class, reason, residual, payload and Q_LIST entries (R177, R178). -/
structure Answer where
  cls : ReplyClass
  reason : Reason
  residual : Nat
  payload : List Word
  entries : List Word
  deriving DecidableEq, Repr

/-- DONE with the reason none. -/
def Answer.done (payload : List Word) : Answer := ⟨.DONE, .NONE, 0, payload, []⟩

/-- PARTIAL CLAMPED when a value was clamped, DONE otherwise (spec 00 section 2.5). -/
def Answer.clamped (clamped : Bool) (payload : List Word) : Answer :=
  if clamped then ⟨.PARTIAL, .CLAMPED, 0, payload, []⟩ else .done payload

/-- REFUSED with a reason. That the residual of a refused Q_LIST or S_LOAD is 0, where no rule gives one, is the
model's choice (R177, log entry 13, DESIGN CHOICE). -/
def Answer.refused (reason : Reason) (payload : List Word) : Answer := ⟨.REFUSED, reason, 0, payload, []⟩

/-- The reply built from an answer, with the code and tag it echoes (Table 10-4). -/
def Answer.reply (a : Answer) (code : BitVec 8) (tag : Tag) : Reply :=
  { cls := a.cls, reason := a.reason, code := code, tag := tag, residual := a.residual, payload := a.payload,
    entries := a.entries }

/-- Completion of a request: the last class and reason are taken, the REPLY cause is set, and the port goes to IDLE
(R177). -/
def State.complete (s : State) (cls : ReplyClass) (reason : Reason) : State :=
  s.setPort
    { s.port with
      state := .IDLE, lastClass := cls, lastReason := reason, causes := { s.port.causes with reply := true },
      reply := none }

/-- The port goes to REPLYING with a reply. While setup is absent no reply area is known, and the request is
completed at once (R180, log entry 5, DEDUCED). -/
def State.toReply (s : State) (r : Reply) : State :=
  match s.port.setup with
  | some _ => s.setPort { s.port with state := .REPLYING, reply := some r }
  | none => s.complete r.cls r.reason

/-- The tests of R174 on word 0 alone (steps 2 to 4), in order: the reason of the first that fails. -/
def headerTest (setupPresent : Bool) (w0 : Word) : Option Reason :=
  if headerLength w0 = 0 ∨ 64 < headerLength w0 then some .BAD_LENGTH
  else if !setupPresent && headerCode w0 != setupCode then some .NEED_SETUP
  else if headerCode w0 ∉ requestCodes then some .BAD_CODE
  else none

/-- The length test of R174 (step 6) on a block read whole. -/
def lengthTest (w0 : Word) (rest : List Word) : Option Reason :=
  if expectedLength (headerCode w0) rest = some (headerLength w0) then none else some .BAD_LENGTH

/-- The same tests on the block a request command spells (R174): its length as its header gives it, in 1..64. -/
def blockTest (setupPresent : Bool) (b : Block) : Option Reason :=
  if 64 < b.length then some .BAD_LENGTH
  else if !setupPresent && b.code != setupCode then some .NEED_SETUP
  else if b.code ∉ requestCodes then some .BAD_CODE
  else if expectedLength b.code b.params = some b.length then none
  else some .BAD_LENGTH

/-- What the next state of a command is: every command of the part goes on. -/
abbrev Result := Host.Outcome State Fault Refusal

/-- A request reaches its owning block: in FETCHING, when its block passes the tests of R174. A block that fails
one is refused and changes no record. In any other port state no block is fetched and the request does not happen
(R173, R176, log entry 2, DESIGN CHOICE). -/
def fetched (b : Block) (s : State) (k : State → Result) : Result :=
  if s.port.state = .FETCHING then
    match blockTest s.port.setup.isSome b with
    | some reason => .next (s.toReply ((Answer.refused reason []).reply b.code b.tag))
    | none => k s
  else .next s

/-- A request taken whole at its owning block, as one event, which then goes to REPLYING (R176). -/
def takeRequest (b : Block) (s : State) (body : State → State × Answer) : Result :=
  fetched b s fun s =>
    let r := body s
    .next (r.1.toReply (r.2.reply b.code b.tag))

end Sys2Proof.Machine
end

