-- ==== Sys2Proof/Machine/Flags.lean ====
section
/-! DEFINITION. The status bits, the interrupt line and the register reads of the port, and the figures the
statistics unit derives from a queue's counters (R113 to R120, R170 to R172, R182). -/

namespace Sys2Proof.Machine

/-! ### Registers -/

/-- The interrupt line: at least one cause is both set and enabled (R182). -/
def State.interruptLine (s : State) : Bool :=
  (s.port.causes.reply && s.port.enables.reply) || (s.port.causes.notice && s.port.enables.notice) ||
    (s.port.causes.clock && s.port.enables.clock)

/-- INIT reads 1 in INITIALISING (R171). -/
def State.initBit (s : State) : Bool := s.port.state == .INITIALISING

/-- READY reads 1 in IDLE (R171). -/
def State.readyBit (s : State) : Bool := s.port.state == .IDLE

/-- CLOCK_LOST reads 1 while the highway is in HOLDOVER (R170). -/
def State.clockLost (s : State) : Bool := s.timeBase.highway == .HOLDOVER

/-- The serial data is driven in LOCKED, and undriven in HOLDOVER, in which power-on leaves the part (R167, R169,
section 9.7). -/
def State.serialDriven (s : State) : Bool := s.timeBase.highway == .LOCKED

/-- What the serial data carries: the last frame sent while it is driven, and nothing while it is not (R163, R167,
R169). -/
def State.serialData (s : State) : Option (List Byte) := if s.serialDriven then some s.frame else none

/-- PSTAT as read (Table 10-4). -/
def State.pstat (s : State) : Word :=
  word ((if s.initBit then 1 else 0) + (if s.readyBit then 2 else 0) + (if s.port.setup.isSome then 4 else 0) +
    (if s.port.overrun then 8 else 0) + (if s.clockLost then 16 else 0) + s.port.lastClass.code * 65536 +
    s.port.lastReason.code * 16777216)

/-- NOTICE as read: posted index in bits 15..0, taken index in bits 31..16; 0 in both while setup is absent
(R172, R187). -/
def State.noticeRegister (s : State) : Word :=
  if s.port.setup.isSome then s.notices.taken ++ s.notices.posted else 0

/-- ICAUSE as read (Table 10-4). -/
def State.icause (s : State) : Word :=
  word ((if s.port.causes.reply then 1 else 0) + (if s.port.causes.notice then 2 else 0) +
    (if s.port.causes.clock then 4 else 0))

/-- A read of the register window; an offset outside the four registers returns 0 (R172). A read changes nothing. -/
def State.readRegister (s : State) (offset : Word) : Word :=
  if offset = 0x0 then s.port.address
  else if offset = 0x4 then s.pstat
  else if offset = 0x8 then s.noticeRegister
  else if offset = 0xC then s.icause
  else 0

/-! ### Service level and lift flag -/

/-- D, the counted calls, without loss (R113). -/
def QueueCounters.counted (c : QueueCounters) : Nat := c.answered + c.abandoned - c.abandonedShort

/-- The service level in per mille (R113). -/
def QueueCounters.serviceLevel (c : QueueCounters) : Nat :=
  if c.counted = 0 then 1000 else 1000 * c.answeredInTarget / c.counted

/-- The lift flag (R114). -/
def Queue.liftFlag (q : Queue) : Bool :=
  decide (20 ≤ q.counters.counted) && decide (q.counters.serviceLevel < q.params.serviceGoal)

/-! ### Handle-time average -/

/-- The AHT after a wrap of `t` talk and `w` wrap seconds: one eighth of the way, truncated toward zero (R116). -/
def ahtUpdate (aht t w : Nat) : Nat :=
  let h := min (max (t + w) 1) 3600
  ((aht : Int) + ((16 * h : Nat) - (aht : Int)).tdiv 8).toNat

/-! ### Staffed count and wait estimates -/

/-- The agent's level in a skill; none when its list lacks the skill (R65). -/
def Agent.level (g : Agent) (skill : Fin 64) : Option Nat :=
  (g.skills.find? fun k => k.id == skill).map (·.level)

/-- The agent qualifies for a queue (R65). -/
def Agent.qualifies (g : Agent) (q : Queue) : Bool :=
  match g.level q.params.skill with
  | some l => decide (q.params.minLevel ≤ l)
  | none => false

/-- READY, OFFERED, TALKING or WRAP: the states the staffed count takes (R118). -/
def AgentState.atWork : AgentState → Bool
  | .LOGGED_OUT => false
  | .AWAY => false
  | .READY => true
  | .OFFERED => true
  | .TALKING => true
  | .WRAP => true

/-- The staffed count of a queue (R118). -/
def State.staffed (s : State) (q : QueueId) : Nat :=
  max 1 (s.agents.toList.countP fun g => g.state.atWork && g.qualifies (s.queue q))

/-- The wait estimate for a position, AHT and staffed count (R119). -/
def waitEstimate (p aht n : Nat) : Nat := (p * aht + 16 * n - 1) / (16 * n)

/-- The spoken minutes of an estimate: rounded up, clamped to 1..99 (R120). -/
def spokenMinutes (ewt : Nat) : Nat := clamp 1 99 ((ewt + 59) / 60)

end Sys2Proof.Machine
end

