-- ==== Sys2Proof/Machine/Notice.lean ====
section
/-! DEFINITION. The notice unit: marks and their companions, the backlog, posting into the ring and the drain
(R187 to R194). -/

namespace Sys2Proof.Machine

/-! ### The ring -/

/-- The slot count of the ring; 0 while setup is absent (R187). -/
def State.ringCount (s : State) : Nat :=
  match s.port.setup with
  | some u => u.slotCount
  | none => 0

/-- The occupancy of the ring: (posted - taken) mod 65,536 (R187). -/
def State.ringOccupancy (s : State) : Nat := (s.notices.posted - s.notices.taken).toNat

/-- The room of the ring: the count less the occupancy (R187). -/
def State.ringRoom (s : State) : Nat := s.ringCount - s.ringOccupancy

/-- The byte address of the slot the next notice goes into: slot (posted index) mod count (R187). -/
def State.slotAddress (s : State) : Nat :=
  match s.port.setup with
  | some u => u.ringBase + 16 * (s.notices.posted.toNat % u.slotCount)
  | none => 0

/-- Words written into host memory, the first of the list first. -/
def State.writeBus (s : State) (ws : List BusWrite) : State := { s with bus := ws.reverse ++ s.bus }

/-- What the part last wrote at a host address; none when it has not written there (log entry 7, DESIGN CHOICE). -/
def State.hostWord (s : State) (a : Nat) : Option Word := (s.bus.find? fun w => w.address == a).map (·.data)

/-! ### Marks -/

/-- No mark is pending. -/
def Marks.isEmpty (m : Marks) : Bool := !m.moved && !m.audio && !m.offer && !m.withdraw

/-- The first pending kind, in the order MOVED, AUDIO, OFFER, WITHDRAW (R191). -/
def Marks.first (m : Marks) : Option NoticeKind :=
  if m.moved then some .MOVED
  else if m.audio then some .AUDIO
  else if m.offer then some .OFFER
  else if m.withdraw then some .WITHDRAW
  else none

/-- Set the mark of a kind; AGENT is no mark of a call. -/
def Marks.set (m : Marks) : NoticeKind → Marks
  | .MOVED => { m with moved := true }
  | .AUDIO => { m with audio := true }
  | .OFFER => { m with offer := true }
  | .WITHDRAW => { m with withdraw := true }
  | .AGENT => m

/-- Clear the mark of a kind. -/
def Marks.clear (m : Marks) : NoticeKind → Marks
  | .MOVED => { m with moved := false }
  | .AUDIO => { m with audio := false }
  | .OFFER => { m with offer := false }
  | .WITHDRAW => { m with withdraw := false }
  | .AGENT => m

/-- Put a record at the tail of the backlog, unless it already stands in it (R190). -/
def State.enterBacklog (s : State) (r : RecordRef) : State :=
  if r ∈ s.notices.backlog then s
  else s.setNotices { s.notices with backlog := s.notices.backlog ++ [r] }

/-- A record leaves the backlog; the records behind it keep their order (R190). -/
def State.leaveBacklog (s : State) (r : RecordRef) : State :=
  s.setNotices { s.notices with backlog := s.notices.backlog.erase r }

/-- Set a mark on a call (R189, R190). -/
def State.markCall (s : State) (k : CallId) (kind : NoticeKind) : State :=
  (s.setCall k { s.call k with marks := (s.call k).marks.set kind }).enterBacklog (.call k)

/-- Set the MOVED mark: moved-from is the queue left when MOVED was not already pending, and is kept otherwise
(R39, R189). -/
def State.markMoved (s : State) (k : CallId) (fromQueue : QueueId) : State :=
  (s.setCall k
    { s.call k with
      movedFrom := if (s.call k).marks.moved then (s.call k).movedFrom else some fromQueue }).markCall k .MOVED

/-- Set the AGENT mark (R189, R190). -/
def State.markAgent (s : State) (a : AgentId) : State :=
  (s.setAgent a { s.agent a with mark := true }).enterBacklog (.agent a)

/-- Drop every mark of a call with its companions; the call leaves the backlog (R30, R193). -/
def State.dropMarks (s : State) (k : CallId) : State :=
  (s.setCall k { s.call k with marks := .empty, movedFrom := none, withdrawnAgent := none }).leaveBacklog (.call k)

/-! ### Posting -/

/-- The first pending kind of a record (R191). -/
def State.pendingKind (s : State) : RecordRef → Option NoticeKind
  | .call k => (s.call k).marks.first
  | .agent a => if (s.agent a).mark then some .AGENT else none

/-- Words 0 to 3 of a notice, from the record's fields as they stand (R192, Table 10-6). -/
def State.noticeWords (s : State) (r : RecordRef) (kind : NoticeKind) : Word × Word × Word × Word :=
  match r with
  | .call k =>
    let c := s.call k
    let w0 := word (kind.code * 16777216) ||| (s.handle k).word
    let t := word s.now
    match kind with
    | .OFFER =>
      let station := match c.agent with
        | some a => (s.agent a).station
        | none => 0
      (w0, optWord (c.agent.map (·.val)), word (station + c.queue.val * 65536), t)
    | .WITHDRAW => (w0, optWord (c.withdrawnAgent.map (·.val)), 0, t)
    | .AUDIO => (w0, optWord c.channel, 0, t)
    | .MOVED => (w0, optWord (c.movedFrom.map (·.val)), word c.queue.val, t)
    | .AGENT => (w0, 0, 0, t)
  | .agent a =>
    let g := s.agent a
    (word (kind.code * 16777216 + a.val), word g.state.code, word g.awayReason.val, word s.now)

/-- Write a slot: words 1, 2 and 3 first, then word 0 (R191). A bus fault ends the writing at the word it falls on,
and the words before it stand (R194). The fault, if any, is the next entry of `ringFaults` (log entry 7, DESIGN
CHOICE). -/
def State.writeSlot (s : State) (ws : Word × Word × Word × Word) : State :=
  let a := s.slotAddress
  let all : List BusWrite := [⟨a + 4, ws.2.1⟩, ⟨a + 8, ws.2.2.1⟩, ⟨a + 12, ws.2.2.2⟩, ⟨a, ws.1⟩]
  let written := match s.ringFaults with
    | some n :: _ => all.take n
    | _ => all
  { s with bus := written.reverse ++ s.bus, ringFaults := s.ringFaults.tail }

/-- Clear the mark of a posted kind with its companion, and take the side effect of the kind: OFFER starts the offer
timer, counted from the posting with the answer timeout of the call's queue as it stands (R78, R191, R193). -/
def State.clearPosted (s : State) (r : RecordRef) (kind : NoticeKind) : State :=
  match r with
  | .agent a => s.setAgent a { s.agent a with mark := false }
  | .call k =>
    let c := s.call k
    let c := { c with marks := c.marks.clear kind }
    match kind with
    | .MOVED => s.setCall k { c with movedFrom := none }
    | .WITHDRAW => s.setCall k { c with withdrawnAgent := none }
    | .OFFER =>
      s.setCall k
        { c with
          offerPosted := true
          offerDeadline := some (deadlineAt s.now (s.now + (s.queue c.queue).params.answerTimeout)) }
    | .AUDIO => s.setCall k c
    | .AGENT => s.setCall k c

/-- Post one notice of a kind from a record (R191). -/
def State.post (s : State) (r : RecordRef) (kind : NoticeKind) : State :=
  let s := s.writeSlot (s.noticeWords r kind)
  let s := s.setNotices { s.notices with posted := s.notices.posted + 1 }
  let s := s.clearPosted r kind
  let s := s.setPort { s.port with causes := { s.port.causes with notice := true } }
  if s.pendingKind r = none then s.leaveBacklog r else s

/-- Post one notice from the record at the backlog's head. A record with no mark only leaves the backlog; the law of
R190 leaves no such record. -/
def State.postHead (s : State) : State :=
  match s.notices.backlog with
  | [] => s
  | r :: _ =>
    match s.pendingKind r with
    | some kind => s.post r kind
    | none => s.leaveBacklog r

/-- At most `n` records or notices taken from the backlog's head, while the ring has room. -/
def State.drainBy : Nat → State → State
  | 0, s => s
  | n + 1, s => if s.notices.backlog.isEmpty || s.ringRoom == 0 then s else State.drainBy n s.postHead

/-- The drain: notices are posted until the backlog is empty or the ring is full (R191). Each posting takes a slot
and each record that holds no mark leaves the backlog, so the bound is never what ends it. -/
def State.drain (s : State) : State := State.drainBy (s.ringRoom + s.notices.backlog.length) s

end Sys2Proof.Machine
end

