-- ==== Sys2Proof/Machine/Treatment.lean ====
section
/-! DEFINITION. The treatment unit: clip starts, the players at a frame, pool players taken and released, the call's
audio, and the composition of announcements (chapter 8). -/

namespace Sys2Proof.Machine

/-! ### Clips -/

/-- B(k - 1), with B(-1) = 0 (R127). -/
def lowerBound (bounds : List Nat) (k : Nat) : Nat := if k = 0 then 0 else bounds.getD (k - 1) 0

/-- The base of a segment: B(k - 1) × 1,024 (R127). -/
def ClipStore.base (st : ClipStore) (k : SegmentId) : Nat := lowerBound st.bounds.toList k.val * 1024

/-- The size of a segment: (B(k) - B(k - 1)) × 1,024 (R127). -/
def ClipStore.size (st : ClipStore) (k : SegmentId) : Nat :=
  (st.bounds[k.val] - lowerBound st.bounds.toList k.val) * 1024

/-- A clip as a clip start captures it (R144). -/
def ClipStore.capture (st : ClipStore) (e : ClipEntry) : CapturedClip :=
  { segment := e.segment, base := st.base e.segment, size := st.size e.segment, start := e.start,
    length := e.length }

/-- The clip start: the clip captured, position 0, no group held, and the silent-clip flag set when the segment lacks
PLAY (R144). -/
def ClipStore.startClip (st : ClipStore) (index : Nat) (e : ClipEntry) : Player :=
  { clipIndex := index, clip := some (st.capture e), position := 0, silentClip := !(st.attr e.segment).play,
    held := none }

/-- Among the places of a list, in the order given, the first whose clip is not EMPTY (R147, R149). -/
def ClipStore.firstDefined (st : ClipStore) (clips : List ClipId) : List Nat → Option (Nat × ClipEntry)
  | [] => none
  | i :: is =>
    match clips[i]? with
    | some c =>
      match st.clip c with
      | some e => some (i, e)
      | none => ClipStore.firstDefined st clips is
    | none => ClipStore.firstDefined st clips is

/-! ### A player at a frame -/

/-- The store address of the sample at the player's position: captured base + start + i (R133). -/
def CapturedClip.address (c : CapturedClip) (position : Nat) : Nat := c.base + c.start + position

/-- The sample a player sends at a frame, and the player after it: the five conditions of R145, tested in order,
and the position advanced. A player with no clip in play sends the silence code. -/
def Player.sample (p : Player) (st : ClipStore) : Byte × Player :=
  match p.clip with
  | none => (Config.silence, p)
  | some c =>
    let a := c.address p.position
    let next := { p with position := p.position + 1 }
    if p.silentClip then (Config.silence, next)
    else if c.size ≤ c.start + p.position then (Config.silence, next)
    else
      match p.held with
      | some h =>
        if h.group = a / 4 then (h.byteAt a, next)
        else if (st.attr c.segment).play then
          ((Memory.readGroup st.memory a).byteAt a, { next with held := some (Memory.readGroup st.memory a) })
        else (Config.silence, { next with silentClip := true })
      | none =>
        if (st.attr c.segment).play then
          ((Memory.readGroup st.memory a).byteAt a, { next with held := some (Memory.readGroup st.memory a) })
        else (Config.silence, { next with silentClip := true })

/-- The clip in play has sent its last sample (R145). -/
def Player.ended (p : Player) : Bool :=
  match p.clip with
  | some c => decide (c.length ≤ p.position)
  | none => false

/-- A player with no clip in play at a place of its list (log entry 11, DESIGN CHOICE). -/
def Player.idleAt (index : Nat) : Player := { Player.reset with clipIndex := index }

/-- A broadcast player seeks a clip from its clip index onward, wrapping once round its list; with a disabled or
empty programme, or every clip EMPTY, it has no clip in play (R147). -/
def seekBroadcast (st : ClipStore) (prog : Programme) (p : Player) : Player :=
  if prog.enabled then
    match st.firstDefined prog.clips
        ((List.range prog.clips.length).map fun j => (p.clipIndex + j) % prog.clips.length) with
    | some (i, e) => st.startClip i e
    | none => .idleAt p.clipIndex
  else .idleAt p.clipIndex

/-- The place after a place of a list, from the last to the first (R147). -/
def nextPlace (n i : Nat) : Nat := if n = 0 then 0 else (i + 1) % n

/-- A broadcast player at a frame: it seeks when it has no clip in play, sends its sample, and takes up the next clip
when its clip has ended (R145, R147). -/
def broadcastFrame (st : ClipStore) (prog : Programme) (p : Player) : Byte × Player :=
  let p := if p.clip = none then seekBroadcast st prog p else p
  let r := p.sample st
  if r.2.ended then
    (r.1, seekBroadcast st prog { r.2 with clipIndex := nextPlace prog.clips.length r.2.clipIndex })
  else r

/-- The next clip of a script from a place on that is not EMPTY, started; none when the script has ended (R149). -/
def seekScript (st : ClipStore) (script : List ClipId) (place : Nat) : Option Player :=
  (st.firstDefined script ((List.range script.length).drop place)).map fun r => st.startClip r.1 r.2

/-- A pool player at a frame: its sample, the player after it, and whether its script has ended (R145, R149). -/
def poolFrame (st : ClipStore) (p : PoolPlayer) : Byte × PoolPlayer × Bool :=
  match p.state with
  | .IDLE => (Config.silence, p, false)
  | .PLAYING =>
    let r := p.player.sample st
    if r.2.ended then
      match seekScript st p.script (r.2.clipIndex + 1) with
      | some next => (r.1, { p with player := next }, false)
      | none => (r.1, { p with player := .idleAt r.2.clipIndex }, true)
    else (r.1, { p with player := r.2 }, false)

/-! ### Pool players and the call's audio -/

/-- The lowest-numbered IDLE pool player (R149). -/
def State.idlePlayer (s : State) : Option PoolId :=
  (List.finRange 32).find? fun p => (s.pool p).state == .IDLE

/-- Announcements are on for a queue (Table 1-8). -/
def Queue.announcing (q : Queue) : Bool :=
  q.params.announceMode != .NONE && q.params.announceInterval != 0

/-- The next announcement of a call whose script has ended or whose treatment begins: T + interval when announcements
are on, absent otherwise (R151, R152, R155). -/
def State.scheduled (s : State) (q : QueueId) : Option Deadline :=
  if (s.queue q).announcing then some (deadlineAt s.now (s.now + (s.queue q).params.announceInterval)) else none

/-- A call takes a pool player with a script: the player PLAYING from the script's first clip that is not EMPTY, the
call on channel 16 + k in the given audio state with no next announcement, and its AUDIO mark set (R149 to R153). -/
def State.takePlayer (s : State) (k : CallId) (p : PoolId) (script : List ClipId) (audio : AudioState) : State :=
  let player := match seekScript s.store script 0 with
    | some player => player
    | none => .reset
  let s := s.setPool p { state := .PLAYING, owner := some (s.handle k), script := script, player := player }
  let s := s.setCall k
    { s.call k with
      audio := audio, channel := some (16 + p.val), poolPlayer := some p, nextAnnouncement := none }
  s.markCall k .AUDIO

/-- The pool player a call holds is released: IDLE, its clip abandoned; the call's pool player field becomes absent
(R149). -/
def State.releasePlayer (s : State) (k : CallId) : State :=
  match (s.call k).poolPlayer with
  | some p => (s.setPool p .idle).setCall k { s.call k with poolPlayer := none }
  | none => s

/-- Treatment begins for a call in its queue: a greeting, music or silence (R151). -/
def State.beginTreatment (s : State) (k : CallId) : State :=
  let q := (s.call k).queue
  let greeting := match (s.queue q).params.greeting with
    | some c => if (s.store.clip c).isSome then some c else none
    | none => none
  match greeting, s.idlePlayer with
  | some c, some p => s.takePlayer k p [c] .GREETING
  | _, _ =>
    match (s.queue q).params.programme with
    | some pr =>
      (s.setCall k
        { s.call k with
          audio := .MUSIC, channel := some pr.val, nextAnnouncement := s.scheduled q }).markCall k .AUDIO
    | none =>
      s.setCall k { s.call k with audio := .SILENT, channel := none, nextAnnouncement := s.scheduled q }

/-- Treatment ends at a move or an overflow: the pool player released, no next announcement, SILENT with no channel,
and the AUDIO mark set when a channel was present (R35, R39, R156). -/
def State.endTreatment (s : State) (k : CallId) : State :=
  let had := (s.call k).channel.isSome
  let s := s.releasePlayer k
  let s := s.setCall k { s.call k with audio := .SILENT, channel := none, nextAnnouncement := none }
  if had then s.markCall k .AUDIO else s

/-- The greeting end and the announcement end of a call: the pool player released, MUSIC on its queue's programme or
SILENT, the AUDIO mark set, and the next announcement scheduled (R152, R155). -/
def State.resumeMusic (s : State) (k : CallId) : State :=
  let s := s.releasePlayer k
  let q := (s.call k).queue
  let c := s.call k
  let s := match (s.queue q).params.programme with
    | some pr => s.setCall k
        { c with audio := .MUSIC, channel := some pr.val, nextAnnouncement := s.scheduled q }
    | none => s.setCall k { c with audio := .SILENT, channel := none, nextAnnouncement := s.scheduled q }
  s.markCall k .AUDIO

/-! ### Composing an announcement -/

/-- The speech-table entries of a spoken number in 1..99 (R160, Table 8-6). -/
def spokenEntries (v : Nat) : List Nat :=
  if v < 20 then [v - 1]
  else if v % 10 = 0 then [17 + v / 10]
  else [17 + v / 10, v % 10 - 1]

/-- The entries of an announcement before omission (Table 8-8). -/
def announcementEntries (mode : AnnounceMode) (p m : Nat) : List Nat :=
  match mode with
  | .NONE => []
  | .POSITION => 27 :: spokenEntries p ++ [28]
  | .WAIT => 29 :: spokenEntries m ++ [30]
  | .BOTH => 27 :: spokenEntries p ++ 28 :: 29 :: spokenEntries m ++ [30]

/-- The clip of a speech-table entry, when the entry is present and its clip not EMPTY (R161). -/
def State.speechClip (s : State) (e : Nat) : Option ClipId :=
  match s.treatment.speech.toList[e]? with
  | some (some c) => if (s.store.clip c).isSome then some c else none
  | _ => none

/-- The script of an announcement for a call, composed from its position and wait estimate as they stand (R159 to
R161). -/
def State.composeScript (s : State) (k : CallId) : List ClipId :=
  let q := (s.call k).queue
  let position := s.position k
  let m := spokenMinutes (waitEstimate position (s.queue q).aht (s.staffed q))
  (announcementEntries (s.queue q).params.announceMode (clamp 1 99 position) m).filterMap s.speechClip

/-- A due announcement is skipped: the next announcement increases by the queue's interval (R154). -/
def State.skipAnnouncement (s : State) (k : CallId) (due : Nat) : State :=
  s.setCall k
    { s.call k with
      nextAnnouncement :=
        some (deadlineAt s.now (due + (s.queue (s.call k).queue).params.announceInterval)) }

end Sys2Proof.Machine
end

