-- ==== Sys2Proof/Machine/Distribution.lean ====
section
/-! DEFINITION. The distributor and admission: qualification, the choice of an agent, offers, sweeps, queue selection,
the ready list, joins and the admission walk (chapters 1, 2 and 4). -/

namespace Sys2Proof.Machine

/-! ### The ready list -/

/-- Agent `b` stands behind agent `a`: ascending ready-since, then index (R50). -/
def State.readyBehind (s : State) (a b : AgentId) : Bool :=
  decide ((s.agent a).readySince < (s.agent b).readySince) ||
    (decide ((s.agent a).readySince = (s.agent b).readySince) && decide (a < b))

/-- An agent joins the ready list at the place its ready-since and index give (R51). -/
def State.joinReady (s : State) (a : AgentId) : State :=
  s.setReadyList (insertWhere (fun b => s.readyBehind a b) a s.readyList)

/-- An agent leaves the ready list; the agents behind it keep their order (R51). -/
def State.leaveReady (s : State) (a : AgentId) : State := s.setReadyList (s.readyList.erase a)

/-! ### The choice of an agent -/

/-- The agent's level in a queue's skill, 0 when its list lacks the skill (R65). -/
def Agent.levelFor (g : Agent) (q : Queue) : Nat := (g.level q.params.skill).getD 0

/-- Talk seconds plus wrap seconds, saturated (R67). -/
def Agent.occupied (g : Agent) : Nat := satAdd g.counters.talkSeconds g.counters.wrapSeconds

/-- Agent `a` comes before agent `b` under the queue's policy (R67, Table 4-1). -/
def State.preferred (s : State) (q : QueueId) (a b : AgentId) : Bool :=
  let qr := s.queue q
  let byReady := s.readyBehind a b
  match qr.params.policy with
  | .LONGEST_READY => byReady
  | .BEST_LEVEL =>
    decide ((s.agent b).levelFor qr < (s.agent a).levelFor qr) ||
      (decide ((s.agent a).levelFor qr = (s.agent b).levelFor qr) && byReady)
  | .LEAST_OCCUPIED =>
    decide ((s.agent a).occupied < (s.agent b).occupied) ||
      (decide ((s.agent a).occupied = (s.agent b).occupied) && byReady)

/-- The first of a list under an order `before`. -/
def pickFirst {α : Type} (before : α → α → Bool) : List α → Option α
  | [] => none
  | x :: xs =>
    match pickFirst before xs with
    | some y => some (if before y x then y else x)
    | none => some x

/-- The READY agents that qualify for a queue, in ready-list order (R67). -/
def State.qualifying (s : State) (q : QueueId) : List AgentId :=
  s.readyList.filter fun a => (s.agent a).qualifies (s.queue q)

/-- The agent a sweep of a queue chooses (R67). -/
def State.chooseAgent (s : State) (q : QueueId) : Option AgentId :=
  pickFirst (s.preferred q) (s.qualifying q)

/-! ### Offers and sweeps -/

/-- The offer of call `k`, the head of queue `q`, to agent `a` (R75, R76). -/
def State.offer (s : State) (q : QueueId) (k : CallId) (a : AgentId) : State :=
  let since := (s.agent a).readySince
  let s := s.leaveList q k
  let s := s.setCall k
    { s.call k with
      state := .OFFERED, agent := some a, savedReadySince := some since, offerPosted := false,
      offerDeadline := none }
  let s := s.leaveReady a
  let s := s.setAgent a { s.agent a with state := .OFFERED, call := some (s.handle k), stateEntry := s.now }
  s.markCall k .OFFER

/-- At most `n` offers of a queue's head calls (R68). -/
def State.sweepBy (q : QueueId) : Nat → State → State
  | 0, s => s
  | n + 1, s =>
    match (s.queue q).waiting with
    | [] => s
    | k :: _ =>
      match s.chooseAgent q with
      | some a => State.sweepBy q n (s.offer q k a)
      | none => s

/-- The sweep of a queue, run when its mode includes DISTRIBUTE (R68). -/
def State.sweep (s : State) (q : QueueId) : State :=
  if (s.queue q).mode.distribute then State.sweepBy q (s.depth q) s else s

/-! ### Queue selection -/

/-- The raw wait of a queue's head call; 0 when the list is empty. -/
def State.headWait (s : State) (q : QueueId) : Nat :=
  match (s.queue q).waiting with
  | k :: _ => s.rawWait k
  | [] => 0

/-- The queue is starving: its guard is not 0 and its head call's raw wait has reached it (R72). -/
def State.starving (s : State) (q : QueueId) : Bool :=
  (s.queue q).waiting != [] && (s.queue q).params.guard != 0 && decide ((s.queue q).params.guard ≤ s.headWait q)

/-- The effective wait of a queue's head call, saturated before the weight is applied (R73). -/
def State.effectiveWait (s : State) (q : QueueId) : Nat :=
  match (s.queue q).waiting with
  | k :: _ => min (s.rawWait k + (s.call k).cls * (s.queue q).params.classBoost) Config.maxWait
  | [] => 0

/-- The effective weight: doubled while the lift flag is set (R73). -/
def Queue.effectiveWeight (q : Queue) : Nat := if q.liftFlag then 2 * q.params.weight else q.params.weight

/-- The score of a queue for an agent (R73). -/
def State.score (s : State) (a : AgentId) (q : QueueId) : Nat :=
  s.effectiveWait q * (s.queue q).effectiveWeight +
    (s.queue q).params.skillGain * ((s.agent a).levelFor (s.queue q) - (s.queue q).params.minLevel)

/-- The candidate queues of an agent, in ascending order (R71). -/
def State.candidates (s : State) (a : AgentId) : List QueueId :=
  (List.finRange 64).filter fun q =>
    (s.queue q).mode.distribute && (s.queue q).waiting != [] && (s.agent a).qualifies (s.queue q)

/-- The queue with the highest figure, the first of a list when figures are equal. -/
def bestQueue (f : QueueId → Nat) (l : List QueueId) : Option QueueId :=
  pickFirst (fun y x => decide (f x < f y)) l

/-- The queue selection chooses for an agent: the starving candidate of longest head wait, else the candidate of
highest score, ties to the lowest number (R72, R73). -/
def State.selectQueue (s : State) (a : AgentId) : Option QueueId :=
  let c := s.candidates a
  match c.filter s.starving with
  | [] => bestQueue (s.score a) c
  | st => bestQueue s.headWait st

/-- Queue selection for a READY agent, with the offer it leads to (R71). -/
def State.select (s : State) (a : AgentId) : State :=
  match s.selectQueue a with
  | some q =>
    match (s.queue q).waiting with
    | k :: _ => s.offer q k a
    | [] => s
  | none => s

/-- An agent enters READY with a ready-since: it joins the ready list and queue selection runs (R51, R71). -/
def State.enterReady (s : State) (a : AgentId) (since : Nat) : State :=
  let s := s.setAgent a
    { s.agent a with state := .READY, readySince := since, awayReason := 0, stateEntry := s.now }
  (s.joinReady a).select a

/-! ### Admission -/

/-- The admission test of a queue (R7). -/
def State.accepts (s : State) (q : QueueId) : Bool :=
  (s.queue q).defined && (s.queue q).mode.accept && decide (s.occupancy q < (s.queue q).params.capacity)

/-- A refusal counted against a queue, when it is defined (R11). -/
def State.divert (s : State) (q : QueueId) : State :=
  if (s.queue q).defined then s.count q .addDiverted else s

/-- The admission walk from a queue with the hops that remain and the queues visited (R9 to R11). It changes
diverted counters alone. -/
def State.walkBy : Nat → List QueueId → QueueId → State → State × Option QueueId
  | hops, visited, q, s =>
    if q ∉ visited ∧ s.accepts q = true then (s, some q)
    else
      let s := if q ∈ visited then s else s.divert q
      match hops, (s.queue q).params.overflowTarget with
      | n + 1, some t => State.walkBy n (q :: visited) t s
      | _, _ => (s, none)

/-- The admission walk: four hops at most (R9). -/
def State.walk (s : State) (visited : List QueueId) (q : QueueId) : State × Option QueueId :=
  State.walkBy 4 visited q s

/-! ### Joins -/

/-- A call joins a queue by admission: QUEUED, its entry time T or its arrival time when the queue carries the wait,
the join sequence taken, entered counted, its keyed place taken (R25 to R27). -/
def State.join (s : State) (k : CallId) (q : QueueId) : State :=
  let c := s.call k
  let entry := if (s.queue q).params.carryWait then c.arrival else s.now
  let s := s.setCall k { c with state := .QUEUED, queue := q, entry := entry, joinSeq := s.joinSeq }
  let s := s.setJoinSeq (satAdd s.joinSeq 1)
  let s := s.count q .addEntered
  s.enterList q k

/-- After a join: the queue is swept, and treatment begins when the call is still QUEUED (R29, R35, R36, R39). -/
def State.settleJoin (s : State) (k : CallId) (q : QueueId) : State :=
  let s := s.sweep q
  if (s.call k).state = .QUEUED then s.beginTreatment k else s

/-- A move adds 1 to the move count, held at 4, and clears overflow spent and due (R35, R36, R39). -/
def State.countMove (s : State) (k : CallId) : State :=
  s.setCall k
    { s.call k with
      moveCount := min ((s.call k).moveCount + 1) 4, overflowSpent := false, overflowDue := false }

/-- A call leaves its queue, list or offer, for another: treatment ends, the old list is left, moved-out is counted,
and overflow-out when the overflow timer moved it (R35, R39). -/
def State.departQueue (s : State) (k : CallId) (overflow : Bool) : State :=
  let old := (s.call k).queue
  let s := s.endTreatment k
  let s := s.leaveList old k
  s.count old (·.addMovedOut overflow)

/-- The overflow move of a call to a target that accepts it (R39). -/
def State.overflowMove (s : State) (k : CallId) (target : QueueId) : State :=
  let old := (s.call k).queue
  let s := s.departQueue k true
  let s := s.countMove k
  let s := s.markMoved k old
  let s := s.join k target
  s.settleJoin k target

end Sys2Proof.Machine
end

