-- ==== Sys2Proof/Machine/WrapUp.lean ====
section
/-! DEFINITION. The wrap-up unit and the endings of calls: wrap entry and end (chapter 5), the freeing of a slot
(R30), and the withdrawal and overflow attempt of calls (R39, R83 to R86). -/

namespace Sys2Proof.Machine

/-! ### Wraps -/

/-- Wrap entry: the agent goes from TALKING to WRAP with the answering queue and the talk seconds (R92, R93). -/
def State.enterWrap (s : State) (a : AgentId) (q : QueueId) (talk : Nat) : State :=
  let p := (s.queue q).params
  s.setAgent a
    { s.agent a with
      state := .WRAP, call := none, stateEntry := s.now, wrapQueue := q, wrapTalk := talk, wrapStart := s.now,
      wrapDeadline := deadlineAt s.now (s.now + p.wrapBase),
      wrapLimit := min (s.now + p.wrapBase + p.wrapExtensionMax) Config.maxU32 }

/-- The agent's counters take a wrap's work (R99). -/
def AgentCounters.addWrap (c : AgentCounters) (t w : Nat) : AgentCounters :=
  { c with
    callsHandled := satAdd c.callsHandled 1, talkSeconds := satAdd c.talkSeconds t,
    wrapSeconds := satAdd c.wrapSeconds w }

/-- The hand-over of a wrap to the statistics unit: the queue's counters, then its AHT (R100, R116). -/
def State.countWrap (s : State) (q : QueueId) (t w : Nat) : State :=
  let s := s.count q (·.addHandled t w)
  s.setQueue q { s.queue q with aht := ahtUpdate (s.queue q).aht t w }

/-- The wrap fields set back to 0 on leaving WRAP (R49, R91). -/
def Agent.leaveWrap (g : Agent) : Agent :=
  { g with wrapQueue := 0, wrapTalk := 0, wrapStart := 0, wrapDeadline := ⟨0, false⟩, wrapLimit := 0 }

/-- The wrap end: the agent's counters, the hand-over, the pending with the AGENT mark at an expiry, and queue
selection for an agent made READY (R99 to R102). -/
def State.endWrap (s : State) (a : AgentId) (expiry : Bool) : State :=
  let g := s.agent a
  let t := g.wrapTalk
  let w := s.now - g.wrapStart
  let s := s.setAgent a { g with counters := g.counters.addWrap t w }
  let s := s.countWrap g.wrapQueue t w
  let s := s.setAgent a { (s.agent a).leaveWrap with pending := .NONE, stateEntry := s.now }
  match g.pending with
  | .NONE =>
    -- the mark is set before the queue selection that entering READY runs (R102)
    let s := if expiry then s.markAgent a else s
    s.enterReady a s.now
  | .AWAY r =>
    let s := s.setAgent a { s.agent a with state := .AWAY, awayReason := r }
    if expiry then s.markAgent a else s
  | .LOGOUT =>
    let s := s.setAgent a { s.agent a with state := .LOGGED_OUT }
    if expiry then s.markAgent a else s

/-- A wrap whose queue has a wrap base of 0 ends within the request that began it, as at an expiry (R95). -/
def State.endWrapAtEntry (s : State) (a : AgentId) (q : QueueId) : State :=
  if (s.queue q).params.wrapBase = 0 then s.endWrap a true else s

/-! ### Freeing a slot -/

/-- Freeing a slot: the pool player released, the waiting list left, the marks dropped, FREE with the generation
advanced (R30). -/
def State.freeCall (s : State) (k : CallId) : State :=
  let s := s.releasePlayer k
  let s := if (s.call k).state = .QUEUED then s.leaveList (s.call k).queue k else s
  let s := s.dropMarks k
  s.setCall k (.free ((s.call k).gen + 1))

/-! ### Overflow -/

/-- The overflow timer of a call is armed (R38). -/
def State.overflowArmed (s : State) (k : CallId) : Bool :=
  let c := s.call k
  let p := (s.queue c.queue).params
  (c.state == .QUEUED || c.state == .OFFERED) && decide (0 < p.overflowAfter) && p.overflowTarget.isSome &&
    decide (c.moveCount < 4) && !c.overflowSpent && !c.overflowDue

/-- The overflow deadline of a call: its entry time plus its queue's overflow after, saturated (R38, R168). -/
def State.overflowDeadline (s : State) (k : CallId) : Nat :=
  min ((s.call k).entry + (s.queue (s.call k).queue).params.overflowAfter) Config.maxU32

/-- The overflow attempt of a QUEUED call, in admission's single-queue form (R10, R39). -/
def State.overflowAttempt (s : State) (k : CallId) : State :=
  match (s.queue (s.call k).queue).params.overflowTarget with
  | some t =>
    if s.accepts t then s.overflowMove k t
    else
      let s := s.divert t
      s.setCall k { s.call k with overflowSpent := true }
  | none => s

/-! ### Withdrawal -/

/-- The agent of an expired offer is released: AWAY with reason RONA, counted and marked (R83). -/
def State.releaseAgent (s : State) (a : AgentId) : State :=
  let g := s.agent a
  let s := s.setAgent a
    { g with
      state := .AWAY, awayReason := 15, call := none, stateEntry := s.now,
      counters := { g.counters with ronaCount := satAdd g.counters.ronaCount 1 } }
  s.markAgent a

/-- The call of an expired offer is released from its agent, with WITHDRAW marked (R83). -/
def State.withdraw (s : State) (k : CallId) (a : AgentId) : State :=
  let s := s.setCall k
    { s.call k with
      agent := none, savedReadySince := none, offerDeadline := none, offerPosted := false,
      withdrawnAgent := some a }
  s.markCall k .WITHDRAW

/-- A withdrawn call returns to its own queue at its keyed place; its treatment begins when it is SILENT with no
channel and no next announcement; and the queue is swept (R84, R86, log entry 12, DEDUCED). -/
def State.returnCall (s : State) (k : CallId) : State :=
  let c := s.call k
  let s := s.setCall k { c with state := .QUEUED, overflowDue := false }
  let s := s.enterList c.queue k
  let s :=
    if c.audio = .SILENT ∧ c.channel = none ∧ c.nextAnnouncement = none then s.beginTreatment k else s
  s.sweep c.queue

/-- What becomes of a withdrawn call: the overflow attempt first when overflow due is set, the return otherwise
(R84, R85). -/
def State.settleWithdrawn (s : State) (k : CallId) : State :=
  let c := s.call k
  if c.overflowDue then
    match (s.queue c.queue).params.overflowTarget with
    | some t =>
      if s.accepts t then s.overflowMove k t
      else
        let s := s.divert t
        (s.setCall k { s.call k with overflowSpent := true }).returnCall k
    | none => s.returnCall k
  else s.returnCall k

end Sys2Proof.Machine
end

