-- ==== Sys2Proof/Machine/Agents.lean ====
section
/-! DEFINITION. The agent and wrap-up requests: A_LOGIN, A_LOGOUT, A_SET, A_SKILLS, A_QUERY, A_COUNTERS, W_EXTEND and
W_END (chapters 3 and 5). -/

namespace Sys2Proof.Machine

/-! ### Shared pieces -/

/-- The away seconds counted on leaving AWAY (R53). -/
def State.countAway (s : State) (a : AgentId) : State :=
  let g := s.agent a
  s.setAgent a
    { g with counters := { g.counters with awaySeconds := satAdd g.counters.awaySeconds (s.now - g.stateEntry) } }

/-- An agent enters AWAY with a reason (R49). -/
def State.enterAway (s : State) (a : AgentId) (reason : Fin 16) : State :=
  s.setAgent a { s.agent a with state := .AWAY, awayReason := reason, stateEntry := s.now }

/-- An agent enters LOGGED_OUT; its station, skills and counters are kept (R60). -/
def State.enterLoggedOut (s : State) (a : AgentId) : State :=
  s.setAgent a { s.agent a with state := .LOGGED_OUT, awayReason := 0, stateEntry := s.now }

/-- Write an agent's pending (R61). -/
def State.setPending (s : State) (a : AgentId) (p : PendingChange) : State :=
  s.setAgent a { s.agent a with pending := p }

/-- The state before, the state after and the pending after: the reply of A_SET and A_LOGOUT (R56, R60). -/
def changeItems (before after : Agent) : List Word :=
  [word before.state.code, word after.state.code, after.pending.word]

/-! ### A_LOGIN -/

/-- A station is held by an agent that is not LOGGED_OUT (R47). -/
def State.stationHeld (s : State) (station : Nat) : Bool :=
  s.agents.toList.any fun g => g.state != .LOGGED_OUT && g.station == station

/-- What A_LOGIN stores before the initial state is entered (R55). -/
def Agent.signIn (g : Agent) (station : Nat) (skills : List Skill) (now : Nat) : Agent :=
  { g with station := station, skills := skills, pending := .NONE, stateEntry := now }

/-- An accepted A_LOGIN: READY with queue selection, or AWAY (R55). -/
def State.login (s : State) (a : AgentId) (station : Nat) (skills : List Skill) (away : Option (Fin 16)) : State :=
  let s := s.setAgent a ((s.agent a).signIn station skills s.now)
  match away with
  | none => s.enterReady a s.now
  | some r => s.enterAway a r

/-- What A_LOGIN does (R54, R55). -/
def State.aLoginBody (agent station initial reason : Word) (skills : List Word) (s : State) : State × Answer :=
  match idOf 1024 agent, skillsOf skills, targetOf initial reason with
  | some a, some l, some away =>
    if 65535 < station.toNat then (s, .refused .BAD_VALUE [])
    else if (s.agent a).state ≠ .LOGGED_OUT then (s, .refused .STATE [])
    else if s.stationHeld station.toNat then (s, .refused .STATION_IN_USE [])
    else
      let s := s.login a station.toNat l away
      (s.drain, .done [word (s.agent a).state.code])
  | _, _, _ => (s, .refused .BAD_VALUE [])

/-- A_LOGIN (R54). -/
def execALogin (tag : Tag) (agent station initial reason : Word) (skills : List Word) (s : State) : Result :=
  takeRequest ⟨0x30, tag, agent :: station :: initial :: reason :: countedList skills⟩ s
    (State.aLoginBody agent station initial reason skills)

/-! ### A_LOGOUT -/

/-- A_LOGOUT by the agent's present state; none where it is refused STATE (R60). -/
def State.logout (s : State) (a : AgentId) : Option State :=
  match (s.agent a).state with
  | .LOGGED_OUT => none
  | .AWAY => some ((s.countAway a).enterLoggedOut a)
  | .READY => some ((s.leaveReady a).enterLoggedOut a)
  | .OFFERED => none
  | .TALKING => some (s.setPending a .LOGOUT)
  | .WRAP => some (s.setPending a .LOGOUT)

/-- What A_LOGOUT does (R60). -/
def State.aLogoutBody (agent : Word) (s : State) : State × Answer :=
  match idOf 1024 agent with
  | none => (s, .refused .BAD_VALUE [])
  | some a =>
    match s.logout a with
    | some s' => (s', .done (changeItems (s.agent a) (s'.agent a)))
    | none => (s, .refused .STATE (changeItems (s.agent a) (s.agent a)))

/-- A_LOGOUT (R60). -/
def execALogout (tag : Tag) (agent : Word) (s : State) : Result :=
  takeRequest ⟨0x31, tag, [agent]⟩ s (State.aLogoutBody agent)

/-! ### A_SET -/

/-- A_SET READY by the agent's present state; none where it is refused STATE (R57 to R59). -/
def State.setReady (s : State) (a : AgentId) : Option State :=
  match (s.agent a).state with
  | .LOGGED_OUT => none
  | .AWAY => some ((s.countAway a).enterReady a s.now)
  | .READY => some s
  | .OFFERED => none
  | .TALKING => some (s.setPending a .NONE)
  | .WRAP => some ((s.setPending a .NONE).endWrap a false)

/-- A_SET AWAY by the agent's present state; none where it is refused STATE (R57 to R59). -/
def State.setAway (s : State) (a : AgentId) (r : Fin 16) : Option State :=
  match (s.agent a).state with
  | .LOGGED_OUT => none
  | .AWAY => some (s.setAgent a { s.agent a with awayReason := r })
  | .READY => some ((s.leaveReady a).enterAway a r)
  | .OFFERED => none
  | .TALKING => if (s.agent a).pending = .LOGOUT then none else some (s.setPending a (.AWAY r))
  | .WRAP => if (s.agent a).pending = .LOGOUT then none else some (s.setPending a (.AWAY r))

/-- What A_SET does (R56 to R59). -/
def State.aSetBody (agent target reason expected : Word) (s : State) : State × Answer :=
  match idOf 1024 agent with
  | none => (s, .refused .BAD_VALUE [])
  | some a =>
    let g := s.agent a
    match targetOf target reason with
    | none => (s, .refused .BAD_VALUE (changeItems g g))
    | some away =>
      if !(expectsNone expected || expects expected g.state) then
        (s, .refused .MISMATCH [word g.state.code, g.pending.word])
      else
        match away with
        | none =>
          match s.setReady a with
          | some s' => (s'.drain, .done (changeItems g (s'.agent a)))
          | none => (s, .refused .STATE (changeItems g g))
        | some r =>
          match s.setAway a r with
          | some s' => (s', .done (changeItems g (s'.agent a)))
          | none => (s, .refused .STATE (changeItems g g))

/-- A_SET (R56). -/
def execASet (tag : Tag) (agent target reason expected : Word) (s : State) : Result :=
  takeRequest ⟨0x32, tag, [agent, target, reason, expected]⟩ s (State.aSetBody agent target reason expected)

/-! ### A_SKILLS, A_QUERY, A_COUNTERS -/

/-- A skill list replaced, and queue selection run for a READY agent (R62). -/
def State.reskill (s : State) (a : AgentId) (skills : List Skill) : State :=
  let s := s.setAgent a { s.agent a with skills := skills }
  if (s.agent a).state = .READY then s.select a else s

/-- What A_SKILLS does (R62). -/
def State.aSkillsBody (agent : Word) (skills : List Word) (s : State) : State × Answer :=
  match idOf 1024 agent, skillsOf skills with
  | some a, some l =>
    let s := s.reskill a l
    (s.drain, .done [word (s.agent a).state.code, word l.length])
  | _, _ => (s, .refused .BAD_VALUE [])

/-- A_SKILLS (R62). -/
def execASkills (tag : Tag) (agent : Word) (skills : List Word) (s : State) : Result :=
  takeRequest ⟨0x33, tag, agent :: countedList skills⟩ s (State.aSkillsBody agent skills)

/-- The five work counters as payload words (Table 5-7). -/
def AgentCounters.words (c : AgentCounters) : List Word :=
  [word c.callsHandled, word c.talkSeconds, word c.wrapSeconds, word c.awaySeconds, word c.ronaCount]

/-- The items of an A_QUERY reply (R63). -/
def State.agentItems (s : State) (a : AgentId) : List Word :=
  let g := s.agent a
  let ready := g.state = .READY
  let wrap := g.state = .WRAP
  [word g.state.code, word g.station, word g.skills.length] ++ g.skills.map Skill.word ++
    [word (if g.state = .AWAY then g.awayReason.val else 0), word (if ready then g.readySince else 0),
      word (if ready then s.readyList.idxOf a + 1 else 0),
      match g.call with
        | some h => if g.state = .OFFERED ∨ g.state = .TALKING then h.word else Config.absent
        | none => Config.absent,
      g.pending.word, word (s.now - g.stateEntry), word (if wrap then g.wrapQueue.val else 0),
      word (if wrap then g.wrapStart else 0), word (if wrap then g.wrapDeadline.due else 0),
      word (if wrap then g.wrapLimit else 0)] ++ g.counters.words

/-- What A_QUERY answers (R63). -/
def State.aQueryBody (agent : Word) (s : State) : State × Answer :=
  match idOf 1024 agent with
  | none => (s, .refused .BAD_VALUE [])
  | some a => (s, .done (s.agentItems a))

/-- A_QUERY (R63). -/
def execAQuery (tag : Tag) (agent : Word) (s : State) : Result :=
  takeRequest ⟨0x34, tag, [agent]⟩ s (State.aQueryBody agent)

/-- What A_COUNTERS does (R106). -/
def State.aCountersBody (agent clear : Word) (s : State) : State × Answer :=
  match idOf 1024 agent with
  | none => (s, .refused .BAD_VALUE [])
  | some a =>
    let g := s.agent a
    (if flagOf clear then s.setAgent a { g with counters := .zero } else s,
      .done (g.counters.words ++ [word g.state.code, word (s.now - g.stateEntry)]))

/-- A_COUNTERS (R106). -/
def execACounters (tag : Tag) (agent clear : Word) (s : State) : Result :=
  takeRequest ⟨0x35, tag, [agent, clear]⟩ s (State.aCountersBody agent clear)

/-! ### W_EXTEND and W_END -/

/-- The wrap deadline after an extension: min(deadline + seconds, limit) (R96). A deadline that is moved while T
holds at its greatest value does not expire by the passing of time (R168). -/
def Agent.extended (g : Agent) (seconds now : Nat) : Deadline :=
  let due := min (g.wrapDeadline.due + seconds) g.wrapLimit
  if due = g.wrapDeadline.due then g.wrapDeadline else deadlineAt now due

/-- What W_EXTEND does (R96). -/
def State.wExtendBody (agent seconds : Word) (s : State) : State × Answer :=
  match idOf 1024 agent with
  | none => (s, .refused .BAD_VALUE [])
  | some a =>
    let g := s.agent a
    if g.state = .WRAP then
      let d := g.extended seconds.toNat s.now
      (s.setAgent a { g with wrapDeadline := d },
        .clamped (decide (g.wrapLimit < g.wrapDeadline.due + seconds.toNat))
          [word g.wrapStart, word d.due, word g.wrapLimit, word (d.due - g.wrapDeadline.due),
            word (g.wrapLimit - d.due)])
    else (s, .refused .STATE [])

/-- W_EXTEND (R96). -/
def execWExtend (tag : Tag) (agent seconds : Word) (s : State) : Result :=
  takeRequest ⟨0x38, tag, [agent, seconds]⟩ s (State.wExtendBody agent seconds)

/-- What W_END does (R97). The reply gives the state after as its code alone: no layout joins a reason to a state
word, and the reason of an agent gone AWAY stands in the word of the pending applied (log entry 13, DESIGN CHOICE). -/
def State.wEndBody (agent : Word) (s : State) : State × Answer :=
  match idOf 1024 agent with
  | none => (s, .refused .BAD_VALUE [])
  | some a =>
    let g := s.agent a
    if g.state = .WRAP then
      let s' := s.endWrap a false
      (s'.drain,
        .done [word g.wrapTalk, word (s.now - g.wrapStart), g.pending.word, word (s'.agent a).state.code])
    else (s, .refused .STATE [])

/-- W_END (R97). -/
def execWEnd (tag : Tag) (agent : Word) (s : State) : Result :=
  takeRequest ⟨0x39, tag, [agent]⟩ s (State.wEndBody agent)

end Sys2Proof.Machine
end

