-- ==== Sys2Proof/Machine/Audio.lean ====
section
/-! DEFINITION. The treatment unit's requests: PROG_DEFINE and SPEECH_DEFINE (chapter 8). -/

namespace Sys2Proof.Machine

/-- A programme stored, and its broadcast player restarted from clip index 0 (R148). -/
def State.defineProgramme (s : State) (p : ProgrammeId) (prog : Programme) : State :=
  s.setTreatment
    { s.treatment with
      programmes := s.treatment.programmes.set p.val prog
      broadcast := s.treatment.broadcast.set p.val (seekBroadcast s.store prog (.idleAt 0)) }

/-- What PROG_DEFINE does (R148). -/
def State.progDefineBody (programme enable : Word) (clips : List Word) (s : State) : State × Answer :=
  match idOf 16 programme, clipsOf clips with
  | some p, some l =>
    let old := s.treatment.programmes[p.val]
    (s.defineProgramme p ⟨flagOf enable, l⟩, .done [flagWord old.enabled, word old.clips.length])
  | _, _ => (s, .refused .BAD_VALUE [])

/-- PROG_DEFINE (R148). -/
def execProgDefine (tag : Tag) (programme enable : Word) (clips : List Word) (s : State) : Result :=
  takeRequest ⟨0x44, tag, programme :: enable :: countedList clips⟩ s (State.progDefineBody programme enable clips)

/-- What SPEECH_DEFINE does (R158). -/
def State.speechDefineBody (entries : List Word) (s : State) : State × Answer :=
  match allOf (optIdOf 256) entries with
  | some l =>
    (s.setTreatment { s.treatment with speech := Vector.ofFn fun i => l.getD i.val none },
      .done [word (l.countP (·.isSome))])
  | none => (s, .refused .BAD_VALUE [])

/-- SPEECH_DEFINE (R158). -/
def execSpeechDefine (tag : Tag) (entries : List Word) (s : State) : Result :=
  takeRequest ⟨0x45, tag, entries⟩ s (State.speechDefineBody entries)

end Sys2Proof.Machine
end

