-- ==== Sys2Proof/Machine/Calls.lean ====
section
/-! DEFINITION. The call requests: C_ARRIVE, C_ANSWER, C_END, C_MOVE, C_CLASS and C_QUERY (chapters 2 and 4). -/

namespace Sys2Proof.Machine

/-- A class word clamped to 3 (R28, R37). -/
def classOf (w : Word) : Nat := min w.toNat 3

/-- A class word was clamped. -/
def classClamped (w : Word) : Bool := decide (3 < w.toNat)

/-! ### C_ARRIVE -/

/-- The record of a new call before it joins (R29). -/
def Call.arrived (gen : Generation) (callerTag : Word) (cls now : Nat) : Call :=
  { Call.free gen with state := .QUEUED, callerTag := callerTag, cls := cls, arrival := now, entry := now }

/-- A call made in a FREE slot joins its accepting queue, which is swept, and begins its treatment there when it is
still QUEUED (R29). -/
def State.arrive (s : State) (k : CallId) (q : QueueId) (callerTag : Word) (cls : Nat) : State :=
  let s := s.setCall k (.arrived (s.call k).gen callerTag cls s.now)
  (s.join k q).settleJoin k q

/-- What C_ARRIVE does (R28, R29). -/
def State.cArriveBody (callerTag queue cls : Word) (s : State) : State × Answer :=
  match idOf 64 queue with
  | none => (s, .refused .BAD_VALUE [])
  | some q =>
    if !(s.queue q).defined then (s, .refused .BAD_QUEUE [])
    else
      match s.freeSlot with
      | none => (s, .refused .TABLE_FULL [])
      | some k =>
        let r := s.walk [] q
        match r.2 with
        | none => (r.1, .refused .DIVERTED [])
        | some accepting =>
          let s := r.1.arrive k accepting callerTag (classOf cls)
          (s.drain, .clamped (classClamped cls)
            [(s.handle k).word, word accepting.val, word (s.call k).state.code])

/-- C_ARRIVE (R28). -/
def execCArrive (tag : Tag) (callerTag queue cls : Word) (s : State) : Result :=
  takeRequest ⟨0x20, tag, [callerTag, queue, cls]⟩ s (State.cArriveBody callerTag queue cls)

/-! ### C_ANSWER -/

/-- The record of a call at its answer (R81). -/
def Call.answered (c : Call) (now : Nat) : Call :=
  { c with
    state := .CONNECTED, talkStart := some now, savedReadySince := none, offerDeadline := none, offerPosted := false,
    overflowDue := false, audio := .SILENT, channel := none, nextAnnouncement := none,
    marks := { c.marks with offer := false, audio := false } }

/-- An offered call is connected to its agent and counted (R81, R82). -/
def State.answer (s : State) (k : CallId) (a : AgentId) : State :=
  let wait := s.rawWait k
  let q := (s.call k).queue
  let s := s.releasePlayer k
  let s := s.setCall k ((s.call k).answered s.now)
  let s := if (s.call k).marks.isEmpty then s.leaveBacklog (.call k) else s
  let s := s.setAgent a { s.agent a with state := .TALKING, stateEntry := s.now }
  s.count q (·.addAnswered (decide (wait ≤ (s.queue q).params.serviceTarget)) wait)

/-- What C_ANSWER does (R80 to R82). -/
def State.cAnswerBody (handle agent : Word) (s : State) : State × Answer :=
  match s.live (handleOf handle) with
  | none => (s, .refused .STALE [])
  | some k =>
    match idOf 1024 agent with
    | none => (s, .refused .BAD_VALUE [])
    | some a =>
      if (s.call k).state = .OFFERED ∧ (s.call k).agent = some a then
        (s.answer k a,
          .done [word (s.call k).queue.val, word (s.rawWait k),
            flagWord (decide (s.rawWait k ≤ (s.queue (s.call k).queue).params.serviceTarget))])
      else (s, .refused .TOO_LATE [])

/-- C_ANSWER (R80). -/
def execCAnswer (tag : Tag) (handle agent : Word) (s : State) : Result :=
  takeRequest ⟨0x21, tag, [handle, agent]⟩ s (State.cAnswerBody handle agent)

/-! ### C_END -/

/-- An abandonment is counted against the call's queue (R31, R32). -/
def State.countAbandoned (s : State) (k : CallId) : State :=
  let q := (s.call k).queue
  s.count q (·.addAbandoned (decide (s.rawWait k < (s.queue q).params.shortAbandon)))

/-- The agent of an abandoned offer returns to READY with its saved ready-since, and queue selection runs (R88). -/
def State.returnAgent (s : State) (a : AgentId) (since : Nat) : State :=
  (s.setAgent a { s.agent a with call := none }).enterReady a since

/-- The seconds a CONNECTED call has been talked: T - talk start (R33, R36). -/
def State.talkSeconds (s : State) (k : CallId) : Nat := s.now - (s.call k).talkStart.getD s.now

/-- What C_END does in each state of the call (R31 to R33, R88, R92, R95). -/
def State.cEndBody (handle : Word) (s : State) : State × Answer :=
  match s.live (handleOf handle) with
  | none => (s, .refused .STALE [])
  | some k =>
    let c := s.call k
    let previous := word c.state.code
    match c.state with
    | .FREE => (s, .refused .STALE [])
    | .QUEUED => ((s.countAbandoned k).freeCall k, .done [previous, word (s.rawWait k)])
    | .OFFERED =>
      let s' := (s.countAbandoned k).freeCall k
      let s' := match c.agent with
        | some a => s'.returnAgent a (c.savedReadySince.getD (s.agent a).readySince)
        | none => s'
      (s'.drain, .done [previous, word (s.rawWait k), optWord (c.agent.map (·.val))])
    | .CONNECTED =>
      let talk := s.talkSeconds k
      let s' := match c.agent with
        | some a => ((s.enterWrap a c.queue talk).freeCall k).endWrapAtEntry a c.queue
        | none => s.freeCall k
      (s'.drain, .done [previous, optWord (c.agent.map (·.val)), word talk])

/-- C_END (R31). -/
def execCEnd (tag : Tag) (handle : Word) (s : State) : Result :=
  takeRequest ⟨0x22, tag, [handle]⟩ s (State.cEndBody handle)

/-! ### C_MOVE -/

/-- The move of a QUEUED call to an accepting queue (R35). -/
def State.moveQueued (s : State) (k : CallId) (q : QueueId) : State :=
  let s := s.departQueue k false
  let s := s.countMove k
  (s.join k q).settleJoin k q

/-- The call's part of a transfer: the CONNECTED call queued in the accepting queue, the queue swept, treatment begun
(R36). -/
def State.requeue (s : State) (k : CallId) (q : QueueId) : State :=
  let s := s.setCall k
    { s.call k with
      agent := none, talkStart := none, savedReadySince := none, offerDeadline := none, offerPosted := false,
      audio := .SILENT, channel := none }
  let s := s.countMove k
  (s.join k q).settleJoin k q

/-- The agent's part of a transfer: WRAP for the answering queue with the captured talk seconds, ended at once when
its wrap base is 0 (R36, R93, R95). -/
def State.wrapTransfer (s : State) (agent : Option AgentId) (answering : QueueId) (talk : Nat) : State :=
  match agent with
  | some a => (s.enterWrap a answering talk).endWrapAtEntry a answering
  | none => s

/-- The accepted C_MOVE of a call, up to the state after the accepting queue's sweep (R35, R36). -/
def State.moveCall (s : State) (k : CallId) (q : QueueId) : State :=
  if (s.call k).state = .QUEUED then s.moveQueued k q else s.requeue k q

/-- The accepted C_MOVE of a call taken whole: a transfer ends with its agent's wrap (R35, R36). -/
def State.moveTo (s : State) (k : CallId) (q : QueueId) : State :=
  let c := s.call k
  if c.state = .QUEUED then s.moveQueued k q
  else (s.requeue k q).wrapTransfer c.agent c.queue (s.talkSeconds k)

/-- What C_MOVE does (R34 to R36). The reply of a transfer carries R34's items alone, where section 5.6 says that C_MOVE
gives the host the talk seconds (log entry 13, DESIGN CHOICE). -/
def State.cMoveBody (handle queue : Word) (s : State) : State × Answer :=
  match s.live (handleOf handle) with
  | none => (s, .refused .STALE [])
  | some k =>
    match idOf 64 queue with
    | none => (s, .refused .BAD_VALUE [])
    | some q =>
      if (s.call k).state = .OFFERED then (s, .refused .STATE [])
      else if (s.call k).state = .QUEUED ∧ q = (s.call k).queue then (s, .refused .BAD_VALUE [])
      else if !(s.queue q).defined then (s, .refused .BAD_QUEUE [])
      else
        let r := s.walk (if (s.call k).state = .QUEUED then [(s.call k).queue] else []) q
        match r.2 with
        | none => (r.1, .refused .DIVERTED [])
        | some accepting =>
          ((r.1.moveTo k accepting).drain,
            -- the state after the sweep; a wrap end of the transfer comes later (log entry 13, DESIGN CHOICE)
            .done [word accepting.val, word ((r.1.moveCall k accepting).call k).state.code])

/-- C_MOVE (R34). -/
def execCMove (tag : Tag) (handle queue : Word) (s : State) : Result :=
  takeRequest ⟨0x23, tag, [handle, queue]⟩ s (State.cMoveBody handle queue)

/-! ### C_CLASS and C_QUERY -/

/-- The class of a call stored; a QUEUED call takes its keyed place, and its queue is swept when its position has
changed (R37). -/
def State.reclass (s : State) (k : CallId) (cls : Nat) : State :=
  let s' := s.setCall k { s.call k with cls := cls }
  if (s.call k).state = .QUEUED ∧ cls ≠ (s.call k).cls ∧ (s.queue (s.call k).queue).params.classBoost ≠ 0 then
    let s' := s'.resort (s.call k).queue
    if s'.position k = s.position k then s' else s'.sweep (s.call k).queue
  else s'

/-- What C_CLASS does (R37). -/
def State.cClassBody (handle cls : Word) (s : State) : State × Answer :=
  match s.live (handleOf handle) with
  | none => (s, .refused .STALE [])
  | some k =>
    let s' := s.reclass k (classOf cls)
    (s'.drain, .clamped (classClamped cls)
      (word (classOf cls) :: if (s'.call k).state = .QUEUED then [word (s'.position k)] else []))

/-- C_CLASS (R37). -/
def execCClass (tag : Tag) (handle cls : Word) (s : State) : Result :=
  takeRequest ⟨0x24, tag, [handle, cls]⟩ s (State.cClassBody handle cls)

/-- The wait a C_QUERY returns: the raw wait in QUEUED and OFFERED, the wait at answer in CONNECTED (R27, R42). -/
def State.callWait (s : State) (k : CallId) : Nat :=
  match (s.call k).state with
  | .CONNECTED => waitSince ((s.call k).talkStart.getD s.now) (s.call k).entry
  | _ => s.rawWait k

/-- The items of a C_QUERY reply (R42). -/
def State.callItems (s : State) (k : CallId) : List Word :=
  let c := s.call k
  [word c.state.code, word c.queue.val, word (if c.state = .QUEUED then s.position k else 0), word (s.callWait k),
    word c.cls, optWord (c.agent.map (·.val)), word c.audio.code, optWord c.channel, word c.moveCount,
    flagWord c.overflowSpent, flagWord c.overflowDue, c.callerTag]

/-- What C_QUERY answers (R42). -/
def State.cQueryBody (handle : Word) (s : State) : State × Answer :=
  match s.live (handleOf handle) with
  | none => (s, .refused .STALE [])
  | some k => (s, .done (s.callItems k))

/-- C_QUERY (R42). -/
def execCQuery (tag : Tag) (handle : Word) (s : State) : Result :=
  takeRequest ⟨0x25, tag, [handle]⟩ s (State.cQueryBody handle)

end Sys2Proof.Machine
end

