-- ==== Sys2Proof/Machine/Port.lean ====
section
/-! DEFINITION. The commands of the port, the registers and the reset: POWER_ON, FILL_COMPLETE, PORT_RESET,
REQADDR_WRITE, FETCH_REFUSED, FETCH_BUS_FAULT, REPLY_COMPLETE, REPLY_WRITE_FAULT, TAKEN_INDEX_WRITE, CAUSE_CLEAR,
UNDECODED_WRITE and SETUP (chapters 10 and 11). -/

namespace Sys2Proof.Machine

/-! ### Power-on and reset -/

/-- The part as power-on leaves it. The waiting commands, host memory with the accesses made to it, and the coming bus
faults lie outside the part and stay; the store's bytes are the running fill's (R125, R185, log entry 10, DESIGN CHOICE). -/
def State.poweredOn (s : State) : State :=
  { State.reset with
    store := { ClipStore.reset with memory := s.store.memory }
    pending := s.pending
    bus := s.bus
    ringFaults := s.ringFaults
    loadReads := s.loadReads }

/-- POWER_ON (R185): every block in its initial state, the port INITIALISING, the fill started. -/
def execPowerOn (s : State) : Result := .next s.poweredOn

/-- The completion of the fill: every byte the silence code, the port IDLE (R125, R185). -/
def State.filled (s : State) : State :=
  (s.setStore { s.store with memory := [] }).setPort { s.port with state := .IDLE }

/-- FILL_COMPLETE (R125). Only a fill in progress completes. -/
def execFillComplete (s : State) : Result :=
  if s.port.state = .INITIALISING then .next s.filled else .next s

/-- A call slot after a port reset: every slot FREE, a freed one of the next generation (R22). -/
def Call.portReset (c : Call) : Call :=
  if c.state = .FREE then .free c.gen else .free (c.gen + 1)

/-- The port after a port reset: the request address kept, INITIALISING while the fill runs (Table 10-1, R183). -/
def Port.afterReset (p : Port) : Port :=
  { Port.reset with
    state := if p.state = .INITIALISING then .INITIALISING else .IDLE
    address := p.address }

/-- The port reset of every block (R183). -/
def State.resetBlocks (s : State) : State :=
  { s with
    queues := Vector.replicate 64 .reset
    joinSeq := 0
    calls := Vector.ofFn fun k => (s.call k).portReset
    agents := Vector.replicate 1024 (.reset s.now)
    readyList := []
    store := { s.store with load := none }
    treatment := { s.treatment with pool := Vector.replicate 32 .idle }
    port := s.port.afterReset
    notices := .reset }

/-- The words of a reply in the order they are written: the entries, the payload and word 1, word 0 last (R177).
Within the entries and within the payload the words are written by ascending address, and word 1 after the payload, an
order the spec does not give (log entry 20, DESIGN CHOICE). -/
def Reply.writes (r : Reply) (area : Nat) : List BusWrite :=
  let at' (base : Nat) (ws : List Word) : List BusWrite := ws.zipIdx.map fun w => ⟨base + 4 * w.2, w.1⟩
  at' (area + 256) r.entries ++ at' (area + 8) r.payload ++
    [⟨area + 4, word r.residual⟩,
      ⟨area, word (r.cls.code * 1073741824 + r.reason.code * 16777216 + r.code.toNat * 65536 + r.tag.toNat)⟩]

/-- The writes of the reply in REPLYING; none in any other state, or while setup is absent. -/
def State.replyWrites (s : State) : List BusWrite :=
  match s.port.state, s.port.setup, s.port.reply with
  | .REPLYING, some u, some r => r.writes u.replyArea
  | _, _, _ => []

/-- PORT_RESET (R183, R184). In REPLYING, `replyWords` words of the reply stand in host memory and the rest, word 0
among them, is not written (log entry 20, DESIGN CHOICE). -/
def execPortReset (_value : Word) (replyWords : Nat) (s : State) : Result :=
  .next (s.writeBus (s.replyWrites.dropLast.take replyWords)).resetBlocks

/-! ### Taking a request address -/

/-- REQADDR_WRITE (R173). -/
def execReqaddrWrite (address : Word) (s : State) : Result :=
  if s.port.state = .IDLE then
    let s := s.setPort { s.port with address := address, overrun := false, state := .FETCHING }
    if address.toNat % 4 = 0 then .next s
    else .next (s.toReply ((Answer.refused .BAD_VALUE []).reply 0 0))
  else .next (s.setPort { s.port with overrun := true })

/-- The reason a fetched block is refused with: the tests of word 0, then the length of a block read whole (R174). -/
def refusalOf (setupPresent : Bool) (w0 : Word) (rest : List Word) : Option Reason :=
  match headerTest setupPresent w0 with
  | some reason => some reason
  | none => if rest.length + 1 = headerLength w0 then lengthTest w0 rest else none

/-- FETCH_REFUSED (R174, R180). A block that passes its tests is not refused, and the event does not happen. -/
def execFetchRefused (word0 : Word) (rest : List Word) (s : State) : Result :=
  if s.port.state = .FETCHING then
    match refusalOf s.port.setup.isSome word0 rest with
    | some reason => .next (s.toReply ((Answer.refused reason []).reply (headerCode word0) (headerTag word0)))
    | none => .next s
  else .next s

/-- A bus fault's outcome: FAULT BUS_FAULT (R175). -/
def Answer.busFault (residual : Nat) (payload : List Word) : Answer := ⟨.FAULT, .BUS_FAULT, residual, payload, []⟩

/-- FETCH_BUS_FAULT (R175). Its residual is 0, for a Q_LIST and an S_LOAD too (log entry 13, DESIGN CHOICE). Word 0
echoes nothing; a later word is read only after word 0 has passed its tests, and
within the block's length (R174). -/
def execFetchBusFault (index : Nat) (word0 : Word) (s : State) : Result :=
  if s.port.state = .FETCHING then
    if index = 0 then .next (s.toReply ((Answer.busFault 0 []).reply 0 0))
    else if headerTest s.port.setup.isSome word0 = none ∧ index < headerLength word0 then
      .next (s.toReply ((Answer.busFault 0 []).reply (headerCode word0) (headerTag word0)))
    else .next s
  else .next s

/-! ### Replies -/

/-- REPLY_COMPLETE (R177): the words written, and the request completed in one step. -/
def execReplyComplete (s : State) : Result :=
  match s.port.state, s.port.reply with
  | .REPLYING, some r => .next ((s.writeBus s.replyWrites).complete r.cls r.reason)
  | _, _ => .next s

/-- REPLY_WRITE_FAULT (R179): `written` words stand, and the request completes with FAULT BUS_FAULT in PSTAT. A
fault falls on a word the reply writes, or it does not happen. -/
def execReplyWriteFault (written : Nat) (s : State) : Result :=
  if written < s.replyWrites.length then
    .next ((s.writeBus (s.replyWrites.take written)).complete .FAULT .BUS_FAULT)
  else .next s

/-! ### The other registers -/

/-- TAKEN_INDEX_WRITE (R188): the index is accepted when the occupancy it leaves lies in 0..count, and a write that
lowers the occupancy drains the backlog. -/
def execTakenIndexWrite (value : Word) (s : State) : Result :=
  let t : BitVec 16 := value.extractLsb' 0 16
  if s.port.setup.isSome ∧ (s.notices.posted - t).toNat ≤ s.ringCount then
    let s' := s.setNotices { s.notices with taken := t }
    .next (if s'.ringOccupancy < s.ringOccupancy then s'.drain else s')
  else .next s

/-- CAUSE_CLEAR (R182): each bit written 1 clears its cause. -/
def execCauseClear (value : Word) (s : State) : Result :=
  let clear := causesOf value
  .next (s.setPort
    { s.port with
      causes :=
        { reply := s.port.causes.reply && !clear.reply, notice := s.port.causes.notice && !clear.notice,
          clock := s.port.causes.clock && !clear.clock } })

/-- UNDECODED_WRITE (R172): a write outside the four registers changes nothing. At one of the four offsets the write
is another row's, and this command faults (log entry 17, DESIGN CHOICE). -/
def execUndecodedWrite (offset _value : Word) (s : State) : Result :=
  if offset ∈ registerOffsets then .fault .decodedOffset else .next s

/-! ### SETUP -/

/-- The tests of SETUP, in order (R181). -/
def State.setupTest (s : State) (replyArea ringBase slotCount : Nat) : Option Reason :=
  if replyArea % 4 ≠ 0 ∨ Config.hostEnd < replyArea + 1024 then some .BAD_VALUE
  else if ringBase % 16 ≠ 0 then some .BAD_VALUE
  else if slotCount ∉ [16, 32, 64, 128, 256, 512, 1024, 2048, 4096] ∨
      Config.hostEnd < ringBase + slotCount * 16 then some .BAD_VALUE
  else if s.port.setup.isSome ∧ s.notices.posted ≠ s.notices.taken then some .STATE
  else none

/-- What SETUP does (R181). -/
def State.setupBody (replyArea ringBase slotCount enables : Word) (s : State) : State × Answer :=
  match s.setupTest replyArea.toNat ringBase.toNat slotCount.toNat with
  | some reason => (s, .refused reason [])
  | none =>
    let s := s.setPort
      { s.port with
        setup := some ⟨replyArea.toNat, ringBase.toNat, slotCount.toNat⟩, enables := causesOf enables }
    (s.setNotices { s.notices with posted := 0, taken := 0 }, .done [])

/-- SETUP (R181). -/
def execSetup (tag : Tag) (replyArea ringBase slotCount enables : Word) (s : State) : Result :=
  takeRequest ⟨setupCode, tag, [replyArea, ringBase, slotCount, enables]⟩ s
    (State.setupBody replyArea ringBase slotCount enables)

end Sys2Proof.Machine
end

