-- ==== Sys2Proof/Machine/Clips.lean ====
section
/-! DEFINITION. The clip store's requests and its load engine: S_MAP, S_ATTR, S_LOAD, CLIP_DEFINE, LOAD_GROUP_WRITE,
LOAD_COMPLETE and LOAD_BUS_FAULT (chapter 7). -/

namespace Sys2Proof.Machine

/-! ### S_MAP -/

/-- Every boundary is at least the one before it (R129). -/
def ascending : List Nat → Bool
  | [] => true
  | [_] => true
  | a :: b :: rest => decide (a ≤ b) && ascending (b :: rest)

/-- A boundary table is valid: non-decreasing, the last entry at most 4096 (R127, R129). -/
def boundsValid (b : List Nat) : Bool := ascending b && decide (b.getLastD 0 ≤ 4096)

/-- The layout of segment k differs between two tables: one of its boundaries differs (R128). -/
def layoutChanges (old new : List Nat) (k : Nat) : Bool :=
  lowerBound old k != lowerBound new k || old.getD k 0 != new.getD k 0

/-- The segments whose layout changes, in ascending order (R128). -/
def changedSegments (old new : List Nat) : List SegmentId :=
  (List.finRange 64).filter fun k => layoutChanges old new k.val

/-- What S_MAP does (R129, R130). -/
def State.sMapBody (table : List Word) (s : State) : State × Answer :=
  let new := boundsOf table
  let changed := changedSegments s.store.bounds.toList new
  if !boundsValid new then (s, .refused .BAD_TABLE [])
  else
    match changed.find? fun k => (s.store.attr k).play with
    | some k => (s, .refused .STATE [word k.val])
    | none =>
      (s.setStore { s.store with bounds := Vector.ofFn fun k => new.getD k.val 0 },
        .done [word changed.length])

/-- S_MAP (R129). -/
def execSMap (tag : Tag) (table : List Word) (s : State) : Result :=
  takeRequest ⟨0x40, tag, table⟩ s (State.sMapBody table)

/-! ### S_ATTR -/

/-- A player whose clip in play was started in segment k plays silence to the clip's end (R132). -/
def Player.silence (p : Player) (k : SegmentId) : Player :=
  match p.clip with
  | some c => if c.segment = k then { p with silentClip := true } else p
  | none => p

/-- Every player with a clip of segment k is silenced (R132). -/
def Treatment.silence (t : Treatment) (k : SegmentId) : Treatment :=
  { t with
    broadcast := Vector.ofFn fun i => (t.broadcast[i.val]).silence k
    pool := Vector.ofFn fun i => { t.pool[i.val] with player := (t.pool[i.val]).player.silence k } }

/-- The setting of a segment written; a segment that loses PLAY has its players silenced (R132). -/
def State.setAttr (s : State) (k : SegmentId) (a : SegmentAttr) : State :=
  let loses := (s.store.attr k).play && !a.play
  let s := s.setStore { s.store with attrs := s.store.attrs.set k.val a }
  if loses then s.setTreatment (s.treatment.silence k) else s

/-- What S_ATTR does (R132). -/
def State.sAttrBody (segment setting : Word) (s : State) : State × Answer :=
  match idOf 64 segment, settingOf setting with
  | some k, some a => (s.setAttr k a, .done [word (s.store.attr k).code])
  | _, _ => (s, .refused .BAD_VALUE [])

/-- S_ATTR (R132). -/
def execSAttr (tag : Tag) (segment setting : Word) (s : State) : Result :=
  takeRequest ⟨0x41, tag, [segment, setting]⟩ s (State.sAttrBody segment setting)

/-! ### CLIP_DEFINE -/

/-- The previous contents of an entry: segment, start and length, each absent for EMPTY (R134, log entry 13, DESIGN
CHOICE). -/
def entryItems : Option ClipEntry → List Word
  | some e => [word e.segment.val, word e.start, word e.length]
  | none => [Config.absent, Config.absent, Config.absent]

/-- The number of a clip's samples that lie within its segment (R134). -/
def audibleLength (size start length : Nat) : Nat := if start < size then min length (size - start) else 0

/-- Write an entry of the clip table. -/
def State.setClip (s : State) (c : ClipId) (e : Option ClipEntry) : State :=
  s.setStore { s.store with clips := s.store.clips.set c.val e }

/-- What CLIP_DEFINE does (R134). -/
def State.clipDefineBody (clip segment start length : Word) (s : State) : State × Answer :=
  match idOf 256 clip, optIdOf 64 segment with
  | some c, some none => (s.setClip c none, .done (entryItems (s.store.clip c)))
  | some c, some (some k) =>
    if Config.storeBytes ≤ start.toNat ∨ length.toNat = 0 then (s, .refused .BAD_VALUE [])
    else
      let l := min length.toNat Config.storeBytes
      (s.setClip c (some ⟨k, start.toNat, l⟩),
        .clamped (decide (Config.storeBytes < length.toNat))
          (entryItems (s.store.clip c) ++
            [word (s.store.size k), word (audibleLength (s.store.size k) start.toNat l)]))
  | _, _ => (s, .refused .BAD_VALUE [])

/-- CLIP_DEFINE (R134). -/
def execClipDefine (tag : Tag) (clip segment start length : Word) (s : State) : Result :=
  takeRequest ⟨0x43, tag, [clip, segment, start, length]⟩ s (State.clipDefineBody clip segment start length)

/-! ### S_LOAD and the load engine -/

/-- The groups a load writes: min(c div 4, (s - o) div 4) (R136). -/
def loadGroups (count size offset : Nat) : Nat := min (count / 4) ((size - offset) / 4)

/-- The tests of S_LOAD, in order; the load that passes them (R135, R136). -/
def State.loadOf (s : State) (tag : Tag) (segment offset count source : Word) : Except Reason Load :=
  match idOf 64 segment with
  | none => .error .BAD_VALUE
  | some k =>
    let c := min count.toNat Config.maxLoad
    let g := loadGroups c (s.store.size k) offset.toNat
    if !(s.store.attr k).load then .error .NOT_LOADABLE
    else if offset.toNat % 4 ≠ 0 ∨ source.toNat % 4 ≠ 0 then .error .BAD_VALUE
    else if s.store.size k ≤ offset.toNat then .error .BAD_VALUE
    else if Config.hostEnd < source.toNat + 4 * g then .error .BAD_VALUE
    else
      .ok
        { base := s.store.base k, offset := offset.toNat, count := c,
          clamped := decide (Config.maxLoad < count.toNat), groups := g, written := 0, source := source.toNat,
          tag := tag }

/-- The payload of a load that has ended: count used, bytes written, next offset (R136, R140). -/
def Load.items (l : Load) : List Word := [word l.count, word (4 * l.written), word (l.offset + 4 * l.written)]

/-- The bytes of the count used that have not been written (R136, R140). -/
def Load.residual (l : Load) : Nat := l.count - 4 * l.written

/-- The answer of a completed load (Table 7-5). -/
def Load.answer (l : Load) : Answer :=
  if l.residual = 0 then Answer.clamped l.clamped l.items
  else ⟨.PARTIAL, .TRUNCATED, l.residual, l.items, []⟩

/-- The code of S_LOAD (Table 10-8). -/
def loadCode : BitVec 8 := 0x42

/-- S_LOAD (R135 to R137): a load that writes a group goes to LOADING, one that writes none ends at once. -/
def execSLoad (tag : Tag) (segment offset count source : Word) (s : State) : Result :=
  let b : Block := ⟨loadCode, tag, [segment, offset, count, source]⟩
  fetched b s fun s =>
    match s.loadOf tag segment offset count source with
    | .error reason => .next (s.toReply ((Answer.refused reason []).reply loadCode tag))
    | .ok l =>
      if l.groups = 0 then .next (s.toReply (l.answer.reply loadCode tag))
      else .next ((s.setStore { s.store with load := some l }).setPort { s.port with state := .LOADING })

/-- The load in progress, in LOADING (R171). -/
def State.loading (s : State) : Option Load :=
  match s.port.state with
  | .LOADING => s.store.load
  | .INITIALISING => none
  | .IDLE => none
  | .FETCHING => none
  | .REPLYING => none

/-- The store address of the next group a load writes (R137). -/
def Load.address (l : Load) : Nat := l.base + l.offset + 4 * l.written

/-- The host address a load fetches its next group from: the source address plus 4 × the group's ordinal (R137). -/
def Load.fetchAddress (l : Load) : Nat := l.source + 4 * l.written

/-- LOAD_GROUP_WRITE (R137, R139): one group fetched from its host address and written whole. The bytes that stand at
that address are the command's operands (log entry 7, DESIGN CHOICE). A load whose groups are all written fetches and
writes no more. -/
def execLoadGroupWrite (b0 b1 b2 b3 : Byte) (s : State) : Result :=
  match s.loading with
  | some l =>
    if l.written < l.groups then
      .next ((s.noteLoadRead l.fetchAddress).setStore
        { s.store with
          memory := Memory.writeGroup s.store.memory l.address b0 b1 b2 b3
          load := some { l with written := l.written + 1 } })
    else .next s
  | none => .next s

/-- A load ends: no load in progress, and its reply follows (R138, R140). -/
def State.endLoad (s : State) (a : Answer) (tag : Tag) : State :=
  (s.setStore { s.store with load := none }).toReply (a.reply loadCode tag)

/-- LOAD_COMPLETE (R138): a load is complete when its last group has been written. -/
def execLoadComplete (s : State) : Result :=
  match s.loading with
  | some l => if l.groups ≤ l.written then .next (s.endLoad l.answer l.tag) else .next s
  | none => .next s

/-- LOAD_BUS_FAULT (R140): the fetch of the next group faults; the groups written stay. -/
def execLoadBusFault (s : State) : Result :=
  match s.loading with
  | some l =>
    if l.written < l.groups then
      .next ((s.noteLoadRead l.fetchAddress).endLoad (.busFault l.residual l.items) l.tag)
    else .next s
  | none => .next s

end Sys2Proof.Machine
end

