-- ==== Sys2Proof/Machine/Highway.lean ====
section
/-! DEFINITION. The highway and the time base: FRAME_SYNC, OSCILLATOR_PERIOD, SECOND_BOUNDARY, HOLDOVER_ENTRY,
HOLDOVER_FRAME_SYNC and RUN_TIMEOUT (chapter 9). -/

namespace Sys2Proof.Machine

/-! ### Time -/

/-- The second boundary: the period count wraps and T increases by 1, held at its greatest value (R168). -/
def TimeBase.secondBoundary (b : TimeBase) : TimeBase :=
  { b with
    periodCount := b.periodCount - Config.periodsPerSecond
    time := if b.time < Config.maxU32 then b.time + 1 else b.time }

/-- A second boundary that is still to be taken is taken before the next counting, so that no second is lost (log
entry 4). -/
def TimeBase.settle (b : TimeBase) : TimeBase :=
  if Config.periodsPerSecond ≤ b.periodCount then b.secondBoundary else b

/-- `n` frame periods counted (R168). -/
def TimeBase.countPeriods (b : TimeBase) (n : Nat) : TimeBase := { b with periodCount := b.periodCount + n }

/-- A second boundary still to be taken is taken (log entry 4, DEDUCED). -/
def State.settleSecond (s : State) : State := s.setTimeBase s.timeBase.settle

/-- The CLOCK cause set (R170). -/
def State.setClockCause (s : State) : State :=
  s.setPort { s.port with causes := { s.port.causes with clock := true } }

/-! ### A frame -/

/-- What a broadcast player does at a frame. -/
def State.broadcastStep (s : State) (p : ProgrammeId) : Byte × Player :=
  broadcastFrame s.store s.treatment.programmes[p.val] s.treatment.broadcast[p.val]

/-- What a pool player does at a frame. -/
def State.poolStep (s : State) (p : PoolId) : Byte × PoolPlayer × Bool := poolFrame s.store (s.pool p)

/-- The 64 samples of a frame: broadcast players on channels 0..15, pool players on 16..47, silence on 48..63 (R163,
Table 9-1). -/
def State.samples (s : State) : List Byte :=
  ((List.finRange 16).map fun p => (s.broadcastStep p).1) ++ ((List.finRange 32).map fun p => (s.poolStep p).1) ++
    List.replicate 16 Config.silence

/-- The pool players whose scripts end at a frame. -/
def State.endedPlayers (s : State) : List PoolId := (List.finRange 32).filter fun p => (s.poolStep p).2.2

/-- A list put in ascending order of a rank. -/
def byRank {α : Type} (rank : α → Nat) : List α → List α
  | [] => []
  | x :: xs => insertWhere (fun y => decide (rank x ≤ rank y)) x (byRank rank xs)

/-- The end of a pool player's script: the player released, and the greeting end or announcement end of its call
(R149, R152, R155). -/
def State.endScript (s : State) (p : PoolId) : State :=
  let owner := (s.pool p).owner
  let s := s.setPool p .idle
  match owner with
  | some h => s.resumeMusic h.slot
  | none => s

/-- A frame sent: the samples taken, every player advanced, the scripts that end taken to their ends in an order the
spec leaves open (R145, R163, log entry 9, DESIGN CHOICE), and their notices posted at the close of this event (R190),
apart from those of a Q_DEFINE that follows it, where Table 8-9 speaks of one notice (log entry 27, DESIGN CHOICE). -/
def State.sendFrame (s : State) : State :=
  let ended := byRank (fun p => Config.scriptEndRank s.framesSent p.val) s.endedPlayers
  let players : Treatment :=
    { s.treatment with
      broadcast := Vector.ofFn fun p => (s.broadcastStep p).2
      pool := Vector.ofFn fun p => (s.poolStep p).2.1 }
  let s := (s.setFrame s.samples (s.framesSent + 1)).setTreatment players
  match ended with
  | [] => s
  | _ => (ended.foldl State.endScript s).drain

/-! ### Frame syncs -/

/-- The periods a frame sync in LOCKED counts: j in 1..16 when it comes 512 × j bit clocks after the one last taken;
none at any other position (R165). -/
def syncPeriods (last : Option Nat) (position : Nat) : Option Nat :=
  match last with
  | none => none
  | some l =>
    let d := position - l
    if d % Config.bitClocksPerFrame = 0 ∧ 1 ≤ d / Config.bitClocksPerFrame ∧ d / Config.bitClocksPerFrame ≤ 16 then
      some (d / Config.bitClocksPerFrame)
    else none

/-- FRAME_SYNC (R165): a frame sync in LOCKED. In HOLDOVER a frame sync is the row HOLDOVER_FRAME_SYNC. -/
def execFrameSync (position : Nat) (s : State) : Result :=
  match s.timeBase.highway, syncPeriods s.timeBase.lastSync position with
  | .LOCKED, some j =>
    let s := s.settleSecond.sendFrame
    .next (s.setTimeBase { s.timeBase.countPeriods j with lastSync := some position })
  | .LOCKED, none => .next s
  | .HOLDOVER, _ => .next s

/-- OSCILLATOR_PERIOD (R167): in HOLDOVER one frame period is counted. -/
def execOscillatorPeriod (s : State) : Result :=
  match s.timeBase.highway with
  | .HOLDOVER =>
    let s := s.settleSecond
    .next (s.setTimeBase (s.timeBase.countPeriods 1))
  | .LOCKED => .next s

/-- SECOND_BOUNDARY (R168): taken when the period count has reached 8,000. -/
def execSecondBoundary (s : State) : Result :=
  if Config.periodsPerSecond ≤ s.timeBase.periodCount then .next (s.setTimeBase s.timeBase.secondBoundary)
  else .next s

/-- HOLDOVER_ENTRY (R166, R170): 2 ms have passed in LOCKED with no frame sync taken. -/
def execHoldoverEntry (s : State) : Result :=
  match s.timeBase.highway with
  | .LOCKED =>
    let s := s.settleSecond
    .next (s.setTimeBase
      { s.timeBase.countPeriods 15 with highway := .HOLDOVER, run := none }).setClockCause
  | .HOLDOVER => .next s

/-- The entry to LOCKED at a frame sync: the first frame sent and one period counted, the run waiting, the CLOCK
cause set (R169, R170). -/
def State.enterLocked (s : State) (position : Nat) : State :=
  let s := s.settleSecond.sendFrame
  (s.setTimeBase
    { s.timeBase.countPeriods 1 with
      highway := .LOCKED, run := none, lastSync := some position }).setClockCause

/-- HOLDOVER_FRAME_SYNC (R169): a frame sync seen in HOLDOVER starts, extends or restarts the regular run. -/
def execHoldoverFrameSync (position : Nat) (s : State) : Result :=
  match s.timeBase.highway with
  | .HOLDOVER =>
    let restart := s.setTimeBase { s.timeBase with run := some 0, lastSync := some position }
    match s.timeBase.run, s.timeBase.lastSync with
    | some n, some l =>
      if position = l + Config.bitClocksPerFrame then
        if 16 ≤ n + 1 then .next (s.enterLocked position)
        else .next (s.setTimeBase { s.timeBase with run := some (n + 1), lastSync := some position })
      else .next restart
    | _, _ => .next restart
  | .LOCKED => .next s

/-- RUN_TIMEOUT (R169): 2 ms in HOLDOVER with no frame sync seen. -/
def execRunTimeout (s : State) : Result :=
  match s.timeBase.highway with
  | .HOLDOVER => .next (s.setTimeBase { s.timeBase with run := none })
  | .LOCKED => .next s

end Sys2Proof.Machine
end

