-- ==== Sys2Proof/Machine/Queues.lean ====
section
/-! DEFINITION. The queue requests: Q_DEFINE, Q_MODE, Q_QUERY, Q_LIST and Q_COUNTERS (chapters 1, 2 and 6). -/

namespace Sys2Proof.Machine

/-! ### Q_DEFINE -/

/-- The call slots whose record has a property, in ascending order. -/
def State.slotsWhere (s : State) (p : Call → Bool) : List CallId :=
  ((List.finRange 2048).zip s.calls.toList).filterMap fun x => if p x.2 then some x.1 else none

/-- The calls of a queue in QUEUED or OFFERED: its waiting list from the head, then its OFFERED calls in ascending
slot number (R16). -/
def State.members (s : State) (q : QueueId) : List CallId :=
  (s.queue q).waiting ++ s.slotsWhere fun c => c.state == .OFFERED && c.queue == q

/-- A change of programme reaches one call: MUSIC takes the new channel or goes SILENT, SILENT goes to MUSIC when the
programme is present, GREETING and ANNOUNCE are not touched (R16). -/
def State.retune (programme : Option ProgrammeId) (s : State) (k : CallId) : State :=
  match (s.call k).audio, programme with
  | .MUSIC, some p => (s.setCall k { s.call k with channel := some p.val }).markCall k .AUDIO
  | .MUSIC, none => (s.setCall k { s.call k with audio := .SILENT, channel := none }).markCall k .AUDIO
  | .SILENT, some p =>
    (s.setCall k { s.call k with audio := .MUSIC, channel := some p.val }).markCall k .AUDIO
  | .SILENT, none => s
  | .GREETING, _ => s
  | .ANNOUNCE, _ => s

/-- A change of announce mode or interval reaches one call (R17, Table 1-8). -/
def State.reschedule (before after : Bool) (interval : Nat) (s : State) (k : CallId) : State :=
  let c := s.call k
  if before && !after then s.setCall k { c with nextAnnouncement := none }
  else if !before && after then
    if (c.audio = .MUSIC ∨ c.audio = .SILENT) ∧ c.nextAnnouncement = none then
      s.setCall k { c with nextAnnouncement := some (deadlineAt s.now (s.now + interval)) }
    else s
  else s

/-- Overflow spent is cleared on one call (R18). -/
def State.unspend (s : State) (k : CallId) : State := s.setCall k { s.call k with overflowSpent := false }

/-- The record of a queue after a Q_DEFINE: the parameters, and at a first definition the AHT's seed (R14). -/
def Queue.define (r : Queue) (d : QDefinition) : Queue :=
  { r with
    defined := true
    params := d.params
    aht := if r.defined then r.aht else 16 * d.initialAht }

/-- The effects of a Q_DEFINE that is not refused, in the order of R14 to R19. That the re-sort of R15 comes before
R16 takes the calls in list order, so that the AUDIO marks follow the list as re-sorted, is the model's choice (log
entry 26, DESIGN CHOICE). -/
def State.define (s : State) (q : QueueId) (d : QDefinition) : State :=
  let old := (s.queue q).params
  let wasOn := (s.queue q).announcing
  let s := s.setQueue q ((s.queue q).define d)
  let s := if old.classBoost = d.params.classBoost then s else s.resort q
  let s := if old.programme = d.params.programme then s
    else (s.members q).foldl (State.retune d.params.programme) s
  let s := (s.members q).foldl (State.reschedule wasOn (s.queue q).announcing d.params.announceInterval) s
  let s := if old.overflowTarget = d.params.overflowTarget ∧ old.overflowAfter = d.params.overflowAfter then s
    else (s.queue q).waiting.foldl State.unspend s
  s.sweep q

/-- What Q_DEFINE does (R12 to R19). -/
def State.qDefineBody (p : QDefineWords) (s : State) : State × Answer :=
  match idOf 64 p.queue with
  | none => (s, .refused .BAD_VALUE [])
  | some q =>
    match qDefineOf q (s.queue q).defined p with
    | none => (s, .refused .BAD_VALUE [])
    | some d => ((s.define q d).drain, .clamped (d.mask != 0) [word d.mask])

/-- Q_DEFINE (R12). -/
def execQDefine (tag : Tag) (params : QDefineWords) (s : State) : Result :=
  takeRequest ⟨0x10, tag, params.toList⟩ s (State.qDefineBody params)

/-! ### Q_MODE -/

/-- Write the mode of a queue, and sweep it when it gains DISTRIBUTE (R6). -/
def State.changeMode (s : State) (q : QueueId) (m : QMode) : State :=
  let had := (s.queue q).mode.distribute
  let s := s.setQueue q { s.queue q with mode := m }
  if !had && m.distribute then s.sweep q else s

/-- What Q_MODE does (R6). A mode that is not one of the four is refused BAD_VALUE before the queue is found not
defined, an order R6 does not give (log entry 25, DESIGN CHOICE). -/
def State.qModeBody (queue mode : Word) (s : State) : State × Answer :=
  match idOf 64 queue, modeOf mode with
  | some q, some m =>
    if (s.queue q).defined then ((s.changeMode q m).drain, .done [word (s.queue q).mode.code])
    else (s, .refused .BAD_QUEUE [])
  | _, _ => (s, .refused .BAD_VALUE [])

/-- Q_MODE (R6). -/
def execQMode (tag : Tag) (queue mode : Word) (s : State) : Result :=
  takeRequest ⟨0x11, tag, [queue, mode]⟩ s (State.qModeBody queue mode)

/-! ### Q_QUERY, Q_LIST, Q_COUNTERS -/

/-- The figures of a Q_QUERY reply, in the order of Table 6-9. -/
def State.queueFigures (s : State) (q : QueueId) : List Word :=
  let r := s.queue q
  [word r.mode.code, word (s.depth q), word (s.offeredCount q), word (s.headWait q), flagWord (s.starving q),
    word r.counters.serviceLevel, word (min r.counters.counted Config.maxU32), flagWord r.liftFlag, word r.aht,
    word (s.staffed q), word (waitEstimate (s.depth q + 1) r.aht (s.staffed q))]

/-- What Q_QUERY answers (R121). -/
def State.qQueryBody (queue : Word) (s : State) : State × Answer :=
  match idOf 64 queue with
  | some q => (s, if (s.queue q).defined then .done (s.queueFigures q) else .refused .BAD_QUEUE [])
  | none => (s, .refused .BAD_VALUE [])

/-- Q_QUERY (R121). -/
def execQQuery (tag : Tag) (queue : Word) (s : State) : Result :=
  takeRequest ⟨0x12, tag, [queue]⟩ s (State.qQueryBody queue)

/-- The calls a Q_LIST walk returns: from the start position toward the tail, at most `maximum`, stopping at the
first whose raw wait is below the minimum (R43). -/
def State.listed (s : State) (q : QueueId) (start maximum minWait : Nat) : List CallId :=
  (((s.queue q).waiting.drop (start - 1)).takeWhile fun k => decide (minWait ≤ s.rawWait k)).take maximum

/-- The three entry words of a listed call: handle, caller tag, raw wait with class (Table 10-4). -/
def State.listEntry (s : State) (k : CallId) : List Word :=
  [(s.handle k).word, (s.call k).callerTag, word (s.rawWait k + (s.call k).cls * 65536)]

/-- What Q_LIST answers (R43). -/
def State.qListBody (queue start maximum minWait : Word) (s : State) : State × Answer :=
  match idOf 64 queue with
  | none => (s, .refused .BAD_VALUE [])
  | some q =>
    if (s.queue q).defined then
      let st := max 1 start.toNat
      let mx := clamp 1 64 maximum.toNat
      let mw := min minWait.toNat Config.maxWait
      let l := s.listed q st mx mw
      let a := Answer.clamped (st != start.toNat || mx != maximum.toNat || mw != minWait.toNat)
        [word (s.depth q), word l.length]
      (s, { a with residual := mx - l.length, entries := l.flatMap s.listEntry })
    else (s, .refused .BAD_QUEUE [])

/-- Q_LIST (R43). -/
def execQList (tag : Tag) (queue start maximum minWait : Word) (s : State) : Result :=
  takeRequest ⟨0x13, tag, [queue, start, maximum, minWait]⟩ s (State.qListBody queue start maximum minWait)

/-- The twelve counters as payload words, in the order of Table 6-1. -/
def QueueCounters.words (c : QueueCounters) : List Word :=
  [word c.entered, word c.answered, word c.answeredInTarget, word c.abandoned, word c.abandonedShort,
    word c.movedOut, word c.overflowOut, word c.diverted, word c.answerWaitTotal, word c.handled, word c.talkTotal,
    word c.wrapTotal]

/-- What Q_COUNTERS does (R110, R111). -/
def State.qCountersBody (queue clear : Word) (s : State) : State × Answer :=
  match idOf 64 queue with
  | none => (s, .refused .BAD_VALUE [])
  | some q =>
    if (s.queue q).defined then
      (if flagOf clear then s.setCounters q { QueueCounters.zero with entered := s.occupancy q } else s,
        .done ((s.queue q).counters.words ++ [word (s.occupancy q)]))
    else (s, .refused .BAD_QUEUE [])

/-- Q_COUNTERS (R110). -/
def execQCounters (tag : Tag) (queue clear : Word) (s : State) : Result :=
  takeRequest ⟨0x14, tag, [queue, clear]⟩ s (State.qCountersBody queue clear)

end Sys2Proof.Machine
end

