-- ==== Sys2Proof/Machine/Timers.lean ====
section
/-! DEFINITION. The expiries of the records' timers: OFFER_EXPIRY, OVERFLOW_EXPIRY, WRAP_EXPIRY and ANNOUNCEMENT_DUE.
An expiry happens when T has reached its deadline, and not otherwise (log entry 2, DESIGN CHOICE, and log entry 6,
DEDUCED). -/

namespace Sys2Proof.Machine

/-- T has reached a stored deadline that is present (R168). -/
def State.due (s : State) (d : Option Deadline) : Bool :=
  match d with
  | some d => d.reached s.now
  | none => false

/-- The expiry of an offer, taken whole (R83 to R86). -/
def State.expireOffer (s : State) (k : CallId) (a : AgentId) : State :=
  (((s.releaseAgent a).withdraw k a).settleWithdrawn k).drain

/-- OFFER_EXPIRY (R83): the offer timer runs once the OFFER notice has been posted. -/
def execOfferExpiry (slot : CallId) (s : State) : Result :=
  let c := s.call slot
  match c.agent with
  | some a =>
    if c.state = .OFFERED ∧ c.offerPosted = true ∧ s.due c.offerDeadline = true then .next (s.expireOffer slot a)
    else .next s
  | none => .next s

/-- OVERFLOW_EXPIRY (R38 to R40): of an armed timer whose deadline lies at or before T. -/
def execOverflowExpiry (slot : CallId) (s : State) : Result :=
  if s.overflowArmed slot ∧ s.overflowDeadline slot ≤ s.now then
    if (s.call slot).state = .QUEUED then .next (s.overflowAttempt slot).drain
    else .next (s.setCall slot { s.call slot with overflowDue := true })
  else .next s

/-- WRAP_EXPIRY (R98). -/
def execWrapExpiry (agent : AgentId) (s : State) : Result :=
  if (s.agent agent).state = .WRAP ∧ (s.agent agent).wrapDeadline.reached s.now = true then
    .next (s.endWrap agent true).drain
  else .next s

/-- A due announcement: started on an IDLE pool player, or skipped (R153, R154). -/
def State.announce (s : State) (k : CallId) (due : Nat) : State :=
  let c := s.call k
  if c.state = .QUEUED ∧ (c.audio = .MUSIC ∨ c.audio = .SILENT) ∧ s.timeBase.highway = .LOCKED then
    match s.idlePlayer, s.composeScript k with
    | some p, x :: xs => (s.takePlayer k p (x :: xs) .ANNOUNCE).drain
    | _, _ => s.skipAnnouncement k due
  else s.skipAnnouncement k due

/-- ANNOUNCEMENT_DUE (R153). -/
def execAnnouncementDue (slot : CallId) (s : State) : Result :=
  match (s.call slot).nextAnnouncement with
  | some d => if d.reached s.now then .next (s.announce slot d.due) else .next s
  | none => .next s

end Sys2Proof.Machine
end

