-- ==== Sys2Proof/Machine/Dispatch.lean ====
section
/-! DEFINITION. The meaning of every command of the part: one arm for each row of the opcode table. -/

namespace Sys2Proof.Machine

def exec (i : Instr) (s : State) : Host.Outcome State Fault Refusal :=
  match i with
  | .powerOn => Sys2Proof.Machine.execPowerOn s
  | .fillComplete => Sys2Proof.Machine.execFillComplete s
  | .portReset value replyWords => Sys2Proof.Machine.execPortReset value replyWords s
  | .reqaddrWrite address => Sys2Proof.Machine.execReqaddrWrite address s
  | .fetchRefused word0 rest => Sys2Proof.Machine.execFetchRefused word0 rest s
  | .fetchBusFault index word0 => Sys2Proof.Machine.execFetchBusFault index word0 s
  | .replyComplete => Sys2Proof.Machine.execReplyComplete s
  | .replyWriteFault written => Sys2Proof.Machine.execReplyWriteFault written s
  | .takenIndexWrite value => Sys2Proof.Machine.execTakenIndexWrite value s
  | .causeClear value => Sys2Proof.Machine.execCauseClear value s
  | .undecodedWrite offset value => Sys2Proof.Machine.execUndecodedWrite offset value s
  | .setup tag replyArea ringBase slotCount enables => Sys2Proof.Machine.execSetup tag replyArea ringBase slotCount enables s
  | .qDefine tag params => Sys2Proof.Machine.execQDefine tag params s
  | .qMode tag queue mode => Sys2Proof.Machine.execQMode tag queue mode s
  | .qQuery tag queue => Sys2Proof.Machine.execQQuery tag queue s
  | .qList tag queue start maximum minWait => Sys2Proof.Machine.execQList tag queue start maximum minWait s
  | .qCounters tag queue clear => Sys2Proof.Machine.execQCounters tag queue clear s
  | .cArrive tag callerTag queue cls => Sys2Proof.Machine.execCArrive tag callerTag queue cls s
  | .cAnswer tag handle agent => Sys2Proof.Machine.execCAnswer tag handle agent s
  | .cEnd tag handle => Sys2Proof.Machine.execCEnd tag handle s
  | .cMove tag handle queue => Sys2Proof.Machine.execCMove tag handle queue s
  | .cClass tag handle cls => Sys2Proof.Machine.execCClass tag handle cls s
  | .cQuery tag handle => Sys2Proof.Machine.execCQuery tag handle s
  | .aLogin tag agent station initial reason skills => Sys2Proof.Machine.execALogin tag agent station initial reason skills s
  | .aLogout tag agent => Sys2Proof.Machine.execALogout tag agent s
  | .aSet tag agent target reason expected => Sys2Proof.Machine.execASet tag agent target reason expected s
  | .aSkills tag agent skills => Sys2Proof.Machine.execASkills tag agent skills s
  | .aQuery tag agent => Sys2Proof.Machine.execAQuery tag agent s
  | .aCounters tag agent clear => Sys2Proof.Machine.execACounters tag agent clear s
  | .wExtend tag agent seconds => Sys2Proof.Machine.execWExtend tag agent seconds s
  | .wEnd tag agent => Sys2Proof.Machine.execWEnd tag agent s
  | .sMap tag table => Sys2Proof.Machine.execSMap tag table s
  | .sAttr tag segment setting => Sys2Proof.Machine.execSAttr tag segment setting s
  | .sLoad tag segment offset count source => Sys2Proof.Machine.execSLoad tag segment offset count source s
  | .clipDefine tag clip segment start length => Sys2Proof.Machine.execClipDefine tag clip segment start length s
  | .progDefine tag programme enable clips => Sys2Proof.Machine.execProgDefine tag programme enable clips s
  | .speechDefine tag entries => Sys2Proof.Machine.execSpeechDefine tag entries s
  | .loadGroupWrite b0 b1 b2 b3 => Sys2Proof.Machine.execLoadGroupWrite b0 b1 b2 b3 s
  | .loadComplete => Sys2Proof.Machine.execLoadComplete s
  | .loadBusFault => Sys2Proof.Machine.execLoadBusFault s
  | .frameSync position => Sys2Proof.Machine.execFrameSync position s
  | .oscillatorPeriod => Sys2Proof.Machine.execOscillatorPeriod s
  | .secondBoundary => Sys2Proof.Machine.execSecondBoundary s
  | .holdoverEntry => Sys2Proof.Machine.execHoldoverEntry s
  | .holdoverFrameSync position => Sys2Proof.Machine.execHoldoverFrameSync position s
  | .runTimeout => Sys2Proof.Machine.execRunTimeout s
  | .offerExpiry slot => Sys2Proof.Machine.execOfferExpiry slot s
  | .overflowExpiry slot => Sys2Proof.Machine.execOverflowExpiry slot s
  | .wrapExpiry agent => Sys2Proof.Machine.execWrapExpiry agent s
  | .announcementDue slot => Sys2Proof.Machine.execAnnouncementDue slot s

end Sys2Proof.Machine
end

