-- ==== Sys2Proof/Safety.lean ====
section
/-! DEFINITION. What a safe run keeps: the laws of the spec that hold between events, each a property of a state, in
the terms the statements use. -/

namespace Sys2Proof.Machine

/-! ### Ranges of the fields -/

/-- The ranges of the parameters of a queue (Table 1-1). -/
structure QueueParams.InRange (p : QueueParams) : Prop where
  minLevel : 1 ≤ p.minLevel ∧ p.minLevel ≤ 9
  capacity : p.capacity ≤ 2048
  weight : 1 ≤ p.weight ∧ p.weight ≤ 32
  skillGain : p.skillGain ≤ 255
  classBoost : p.classBoost ≤ 600
  guard : p.guard = 0 ∨ (10 ≤ p.guard ∧ p.guard ≤ 3600)
  answerTimeout : 5 ≤ p.answerTimeout ∧ p.answerTimeout ≤ 120
  wrapBase : p.wrapBase ≤ 900
  wrapExtensionMax : p.wrapExtensionMax ≤ 1800
  overflowAfter : p.overflowAfter = 0 ∨ (5 ≤ p.overflowAfter ∧ p.overflowAfter ≤ 3600)
  serviceTarget : 1 ≤ p.serviceTarget ∧ p.serviceTarget ≤ 600
  serviceGoal : p.serviceGoal ≤ 1000
  shortAbandon : p.shortAbandon ≤ 60
  announceInterval : p.announceInterval = 0 ∨ (20 ≤ p.announceInterval ∧ p.announceInterval ≤ 600)

/-- Every parameter of every queue lies in its range (R1, R13), and no queue is its own overflow target (R12). -/
def State.ParamsInRange (s : State) : Prop :=
  ∀ q, (s.queue q).params.InRange ∧ (s.queue q).params.overflowTarget ≠ some q

/-- The AHT of every queue lies in 16..57,600 (R117). -/
def State.AhtInRange (s : State) : Prop := ∀ q, 16 ≤ (s.queue q).aht ∧ (s.queue q).aht ≤ 57600

/-- The ranges of Tables 2-1 and 3-1 that a width does not give: class, move count, channel, join sequence, station,
skills and pending; and a wrap's deadline within its limit (R92, R96). -/
structure State.RecordsInRange (s : State) : Prop where
  joinSeq : s.joinSeq ≤ Config.maxU32
  callSeq : ∀ k, (s.call k).joinSeq ≤ Config.maxU32
  cls : ∀ k, (s.call k).cls ≤ 3
  moveCount : ∀ k, (s.call k).moveCount ≤ 4
  channel : ∀ k c, (s.call k).channel = some c → c < 48
  station : ∀ a, (s.agent a).station ≤ 65535
  skills : ∀ a, (s.agent a).skills.length ≤ 8 ∧ ((s.agent a).skills.map (·.id)).Nodup ∧
    ∀ k ∈ (s.agent a).skills, 1 ≤ k.level ∧ k.level ≤ 9
  pending : ∀ a r, (s.agent a).pending = .AWAY r → r.val ≤ 14
  wrap : ∀ a, (s.agent a).wrapDeadline.due ≤ (s.agent a).wrapLimit ∧ (s.agent a).wrapLimit ≤ Config.maxU32

/-- The counters of the queues and of the agents lie within 32 bits (R105, R108). -/
structure State.CountersInRange (s : State) : Prop where
  calls : ∀ q, (s.queue q).counters.entered ≤ Config.maxU32 ∧ (s.queue q).counters.answered ≤ Config.maxU32 ∧
    (s.queue q).counters.answeredInTarget ≤ Config.maxU32 ∧ (s.queue q).counters.abandoned ≤ Config.maxU32 ∧
    (s.queue q).counters.abandonedShort ≤ Config.maxU32 ∧ (s.queue q).counters.movedOut ≤ Config.maxU32 ∧
    (s.queue q).counters.overflowOut ≤ Config.maxU32 ∧ (s.queue q).counters.diverted ≤ Config.maxU32
  work : ∀ q, (s.queue q).counters.answerWaitTotal ≤ Config.maxU32 ∧ (s.queue q).counters.handled ≤ Config.maxU32 ∧
    (s.queue q).counters.talkTotal ≤ Config.maxU32 ∧ (s.queue q).counters.wrapTotal ≤ Config.maxU32
  agents : ∀ a, (s.agent a).counters.callsHandled ≤ Config.maxU32 ∧
    (s.agent a).counters.talkSeconds ≤ Config.maxU32 ∧ (s.agent a).counters.wrapSeconds ≤ Config.maxU32 ∧
    (s.agent a).counters.awaySeconds ≤ Config.maxU32 ∧ (s.agent a).counters.ronaCount ≤ Config.maxU32

/-- The values of T in the records: the moments of calls and agents, and an agent's wrap talk seconds, lie at or before
T, and the deadlines of calls within 32 bits (Tables 2-1, 3-1, 5-1). -/
structure State.StampsInRange (s : State) : Prop where
  calls : ∀ k, (s.call k).arrival ≤ s.now ∧ (s.call k).entry ≤ s.now ∧
    (∀ n, (s.call k).savedReadySince = some n → n ≤ s.now) ∧ (∀ n, (s.call k).talkStart = some n → n ≤ s.now)
  deadlines : ∀ k d, (s.call k).offerDeadline = some d ∨ (s.call k).nextAnnouncement = some d → d.due ≤ Config.maxU32
  agents : ∀ a, (s.agent a).readySince ≤ s.now ∧ (s.agent a).stateEntry ≤ s.now ∧ (s.agent a).wrapStart ≤ s.now ∧
    (s.agent a).wrapTalk ≤ s.now

/-- The ranges of an entry of the clip table (R133). -/
structure ClipEntry.InRange (e : ClipEntry) : Prop where
  start : e.start < 4194304
  length : 1 ≤ e.length ∧ e.length ≤ 4194304

/-- The ranges of a player (Table 8-1): its place, its captured clip, its position in the clip, and the group it holds,
which lies in the captured segment. -/
structure Player.InRange (p : Player) : Prop where
  place : p.clipIndex ≤ 7
  idle : p.clip = none → p.position = 0
  captured : ∀ c, p.clip = some c → c.start < 4194304 ∧ 1 ≤ c.length ∧ c.length ≤ 4194304 ∧ p.position < c.length
  segment : ∀ c, p.clip = some c → c.base % 1024 = 0 ∧ c.size % 1024 = 0 ∧ c.base + c.size ≤ 4194304
  held : ∀ c h, p.clip = some c → p.held = some h → c.base ≤ 4 * h.group ∧ 4 * h.group + 4 ≤ c.base + c.size

/-- Broadcast player `p`. -/
def State.broadcastPlayer (s : State) (p : ProgrammeId) : Player := s.treatment.broadcast[p.val]

/-- Programme `p`. -/
def State.programme (s : State) (p : ProgrammeId) : Programme := s.treatment.programmes[p.val]

/-- The clip table, the programmes, and the players lie in their ranges; a PLAYING pool player has a script (R133, R146,
Table 8-1). -/
structure State.LibraryInRange (s : State) : Prop where
  clips : ∀ c e, s.store.clip c = some e → e.InRange
  programmes : ∀ p, (s.programme p).clips.length ≤ 8
  broadcast : ∀ p, (s.broadcastPlayer p).InRange
  pool : ∀ p, (s.pool p).player.InRange ∧ (s.pool p).script.length ≤ 8 ∧
    ((s.pool p).state = .PLAYING → (s.pool p).script ≠ [])

/-- The ranges of the time base (Table 9-2); in LOCKED, and in a regular run, a last frame sync stands. Between the
counting that reaches a second's end and SECOND_BOUNDARY the period count stands at 8,000 or above (log entry 4,
DEDUCED). -/
structure State.TimeInRange (s : State) : Prop where
  time : s.timeBase.time ≤ Config.maxU32
  periods : s.timeBase.periodCount < 8016
  run : ∀ n, s.timeBase.run = some n → n ≤ 15
  sync : s.timeBase.highway = .LOCKED ∨ s.timeBase.run ≠ none → s.timeBase.lastSync ≠ none

/-! ### The clip store -/

/-- The boundary table is non-decreasing and at most 4096; the memory is canonical and within the store; a load in
progress stays within the store, on group boundaries (R124, R127, R135, R136). -/
structure State.StoreLaw (s : State) : Prop where
  rising : ∀ i j : SegmentId, i ≤ j → s.store.bounds[i.val] ≤ s.store.bounds[j.val]
  bounded : ∀ i : SegmentId, s.store.bounds[i.val] ≤ 4096
  canonical : Memory.wf s.store.memory = true
  within : ∀ c ∈ s.store.memory, c.1 < Config.storeBytes
  load : ∀ l, s.store.load = some l →
    l.written ≤ l.groups ∧ (l.base + l.offset) % 4 = 0 ∧ l.base + l.offset + 4 * l.groups ≤ Config.storeBytes

/-! ### The port -/

/-- A reply stands in REPLYING alone, a load in LOADING alone, and neither state is reached while setup is absent,
where the enables are off and both indices 0 (R171, R172, R180). -/
structure State.PortLaw (s : State) : Prop where
  reply : s.port.state = .REPLYING ↔ s.port.reply.isSome = true
  load : s.port.state = .LOADING ↔ s.store.load.isSome = true
  absent : s.port.setup = none →
    s.port.state ≠ .REPLYING ∧ s.port.state ≠ .LOADING ∧ s.port.enables = .off ∧ s.notices.posted = 0 ∧
      s.notices.taken = 0

/-- The reply in REPLYING fits its area: at most 62 payload words and 192 entry words (R177). -/
def State.ReplyFits (s : State) : Prop :=
  ∀ r, s.port.reply = some r → r.payload.length ≤ 62 ∧ r.entries.length ≤ 192

/-! ### Calls, lists and agents -/

/-- An agent serves a call: the call names the agent and the agent names the call (R76). -/
def State.Paired (s : State) (k : CallId) (a : AgentId) : Prop :=
  (s.call k).agent = some a ∧ (s.agent a).call = some (s.handle k)

/-- The records agree: each waiting list holds its queue's QUEUED calls, each once (R24); the ready list holds the
READY agents, each once, by ready-since and index (R50); and each OFFERED or CONNECTED call is paired with one OFFERED
or TALKING agent (R76), a CONNECTED one with its talk start (R81). -/
structure State.RecordsAgree (s : State) : Prop where
  listNodup : ∀ q, (s.queue q).waiting.Nodup
  listed : ∀ q k, k ∈ (s.queue q).waiting ↔ (s.call k).state = .QUEUED ∧ (s.call k).queue = q
  readyNodup : s.readyList.Nodup
  ready : ∀ a, a ∈ s.readyList ↔ (s.agent a).state = .READY
  readyOrder : s.readyList.Pairwise fun a b => s.readyBehind a b = true
  offered : ∀ k, (s.call k).state = .OFFERED → ∃ a, (s.agent a).state = .OFFERED ∧ s.Paired k a
  connected : ∀ k, (s.call k).state = .CONNECTED → ∃ a, (s.agent a).state = .TALKING ∧ s.Paired k a
  talking : ∀ k, (s.call k).state = .CONNECTED → (s.call k).talkStart ≠ none
  offeredAgent : ∀ a, (s.agent a).state = .OFFERED → ∃ k, (s.call k).state = .OFFERED ∧ s.Paired k a
  talkingAgent : ∀ a, (s.agent a).state = .TALKING → ∃ k, (s.call k).state = .CONNECTED ∧ s.Paired k a

/-- The fields of an agent that belong to one state hold their value outside it (Table 3-4): the away reason 0 outside
AWAY (R49), the wrap fields 0 outside WRAP (R91), the pending none outside TALKING and WRAP (R61), the call absent
outside OFFERED and TALKING. -/
structure State.FieldsOfState (s : State) : Prop where
  away : ∀ a, (s.agent a).state ≠ .AWAY → (s.agent a).awayReason = 0
  wrap : ∀ a, (s.agent a).state ≠ .WRAP →
    (s.agent a).wrapQueue = 0 ∧ (s.agent a).wrapTalk = 0 ∧ (s.agent a).wrapStart = 0 ∧
      (s.agent a).wrapDeadline = ⟨0, false⟩ ∧ (s.agent a).wrapLimit = 0
  pending : ∀ a, (s.agent a).state ≠ .TALKING → (s.agent a).state ≠ .WRAP → (s.agent a).pending = .NONE
  call : ∀ a, (s.agent a).state ≠ .OFFERED → (s.agent a).state ≠ .TALKING → (s.agent a).call = none

/-- Each waiting list is in the order of R25. -/
def State.ListsOrdered (s : State) : Prop :=
  ∀ q, (s.queue q).waiting.Pairwise fun a b =>
    notAfter (s.queue q).params.classBoost (s.call a) (s.call b) = true

/-- No READY agent qualifies for a queue whose mode includes DISTRIBUTE and whose waiting list is not empty (R70). -/
def State.NoneLeftWaiting (s : State) : Prop :=
  ∀ a q, (s.agent a).state = .READY → (s.queue q).mode.distribute = true → (s.queue q).waiting ≠ [] →
    (s.agent a).qualifies (s.queue q) = false

/-- No counter of the balance has saturated. -/
def QueueCounters.unsaturated (c : QueueCounters) : Prop :=
  c.entered < Config.maxU32 ∧ c.answered < Config.maxU32 ∧ c.abandoned < Config.maxU32 ∧ c.movedOut < Config.maxU32

/-- The balance of every queue whose counters have not saturated (R109). -/
def State.Balanced (s : State) : Prop :=
  ∀ q, (s.queue q).counters.unsaturated →
    (s.queue q).counters.entered =
      (s.queue q).counters.answered + (s.queue q).counters.abandoned + (s.queue q).counters.movedOut + s.occupancy q

/-- The orderings of the counters, the larger of each pair within 32 bits (R108, R109). -/
def State.CountersOrdered (s : State) : Prop :=
  ∀ q, ((s.queue q).counters.answeredInTarget ≤ (s.queue q).counters.answered ∧
      (s.queue q).counters.answered ≤ Config.maxU32) ∧
    ((s.queue q).counters.abandonedShort ≤ (s.queue q).counters.abandoned ∧
      (s.queue q).counters.abandoned ≤ Config.maxU32) ∧
    (s.queue q).counters.overflowOut ≤ (s.queue q).counters.movedOut ∧
      (s.queue q).counters.movedOut ≤ Config.maxU32

/-! ### Pool players -/

/-- A pool player serves one call, the one that holds it, and a call holds one only in GREETING or ANNOUNCE, on
channel 16 + k (R149, R150). -/
structure State.PlayersAgree (s : State) : Prop where
  idle : ∀ p, (s.pool p).state = .IDLE → s.pool p = .idle
  playing : ∀ p, (s.pool p).state = .PLAYING →
    ∃ k, (s.pool p).owner = some (s.handle k) ∧ (s.call k).poolPlayer = some p
  holder : ∀ k p, (s.call k).poolPlayer = some p →
    (s.pool p).state = .PLAYING ∧ (s.pool p).owner = some (s.handle k) ∧
      ((s.call k).audio = .GREETING ∨ (s.call k).audio = .ANNOUNCE) ∧ (s.call k).channel = some (16 + p.val) ∧
      ((s.call k).state = .QUEUED ∨ (s.call k).state = .OFFERED)

/-! ### Notices -/

/-- Nothing of the part is in use: no call, no logged-in agent, no pool player playing, no mark. -/
structure State.Unused (s : State) : Prop where
  calls : ∀ k, s.call k = .free (s.call k).gen
  agents : ∀ a, (s.agent a).state = .LOGGED_OUT ∧ (s.agent a).mark = false
  pool : ∀ p, s.pool p = .idle
  ready : s.readyList = []
  lists : ∀ q, (s.queue q).waiting = []

/-- The law of the ring and the backlog (R187, R190): a slot count SETUP takes, an occupancy within it, each record in
the backlog once, every marked record in it, and a backlog only behind a full ring. While setup is absent nothing is in
use and the backlog is empty (R196). -/
structure State.NoticeLaw (s : State) : Prop where
  count : ∀ u, s.port.setup = some u → u.slotCount ∈ [16, 32, 64, 128, 256, 512, 1024, 2048, 4096]
  occupancy : s.ringOccupancy ≤ s.ringCount
  nodup : s.notices.backlog.Nodup
  marked : ∀ r, s.pendingKind r ≠ none → r ∈ s.notices.backlog
  full : s.notices.backlog ≠ [] → s.ringOccupancy = s.ringCount
  absent : s.port.setup = none → s.Unused ∧ s.notices.backlog = []

/-- The backlog holds no record without a mark, and a FREE slot carries no mark (R190, R193). -/
structure State.BacklogExact (s : State) : Prop where
  onlyMarked : ∀ r ∈ s.notices.backlog, s.pendingKind r ≠ none
  free : ∀ k, (s.call k).state = .FREE → (s.call k).marks.isEmpty = true

/-- All the laws of the records together. -/
structure State.Lawful (s : State) : Prop where
  agree : s.RecordsAgree
  players : s.PlayersAgree
  notices : s.NoticeLaw
  exact : s.BacklogExact

/-! ### The words statements are written in -/

/-- A request can be taken: the port is in FETCHING and setup is present (R174). -/
def State.Taking (s : State) : Prop := s.port.state = .FETCHING ∧ s.port.setup.isSome = true

/-- The port in REPLYING with a reply (R177). -/
def Port.replying (p : Port) (cls : ReplyClass) (reason : Reason) (code : BitVec 8) (tag : Tag) (residual : Nat)
    (payload entries : List Word) : Port :=
  { p with state := .REPLYING, reply := some ⟨cls, reason, code, tag, residual, payload, entries⟩ }

/-- The state with the port in REPLYING and nothing else changed. -/
def State.replying (s : State) (cls : ReplyClass) (reason : Reason) (code : BitVec 8) (tag : Tag)
    (payload : List Word) : State :=
  { s with port := s.port.replying cls reason code tag 0 payload [] }

/-- The port with its request completed: the last class and reason taken, the REPLY cause set, IDLE (R177). -/
def Port.completed (p : Port) (cls : ReplyClass) (reason : Reason) : Port :=
  { p with
    state := .IDLE, lastClass := cls, lastReason := reason, causes := { p.causes with reply := true }, reply := none }

/-- The outcome of a refusal at the port: in REPLYING when setup is present, completed at once while it is absent
(R180). -/
def State.refusedAtPort (s : State) (cls : ReplyClass) (reason : Reason) (code : BitVec 8) (tag : Tag) : State :=
  if s.port.setup.isSome then s.replying cls reason code tag []
  else { s with port := s.port.completed cls reason }

/-- The reply of state `t` is this one. -/
def State.Replies (t : State) (cls : ReplyClass) (reason : Reason) (code : BitVec 8) (tag : Tag)
    (payload : List Word) : Prop :=
  t.port.state = .REPLYING ∧ t.port.reply = some ⟨cls, reason, code, tag, 0, payload, []⟩

/-- The words of a reply but for word 0, in the order they are written: the entries, the payload and word 1, those of
the entries and of the payload by ascending address (R177; the order within them is log entry 20, DESIGN CHOICE). -/
def Reply.bodyWords (r : Reply) (area : Nat) : List BusWrite :=
  (List.range r.entries.length).map (fun i => ⟨area + 256 + 4 * i, r.entries.getD i 0⟩) ++
    (List.range r.payload.length).map (fun i => ⟨area + 8 + 4 * i, r.payload.getD i 0⟩) ++
    [⟨area + 4, word r.residual⟩]

/-- The part has written the words `ws` into host memory between two states, the first of the list first, and no other;
each stands where it was written. -/
structure State.Wrote (s t : State) (ws : List BusWrite) : Prop where
  bus : t.bus = ws.reverse ++ s.bus
  stand : ∀ w ∈ ws, t.hostWord w.address = some w.data
  others : ∀ a, (∀ w ∈ ws, w.address ≠ a) → t.hostWord a = s.hostWord a

/-- What no request or timer about calls, agents and queues touches: the clip store, the broadcast players, the
programme and speech tables, the time base, the setup and enables, the load engine's fetches, the frame output and the
waiting commands. -/
structure State.SameLibrary (s t : State) : Prop where
  store : t.store = s.store
  broadcast : t.treatment.broadcast = s.treatment.broadcast
  programmes : t.treatment.programmes = s.treatment.programmes
  speech : t.treatment.speech = s.treatment.speech
  timeBase : t.timeBase = s.timeBase
  setup : t.port.setup = s.port.setup ∧ t.port.enables = s.port.enables
  address : t.port.address = s.port.address ∧ t.port.overrun = s.port.overrun
  last : t.port.lastClass = s.port.lastClass ∧ t.port.lastReason = s.port.lastReason
  causes : t.port.causes.reply = s.port.causes.reply ∧ t.port.causes.clock = s.port.causes.clock
  taken : t.notices.taken = s.notices.taken
  loadReads : t.loadReads = s.loadReads
  frame : t.frame = s.frame ∧ t.framesSent = s.framesSent
  pending : t.pending = s.pending

/-- The class and reason of a reply in which a value was clamped or not (section 2.5 of spec 00). -/
def clampClass (clamped : Bool) : ReplyClass := if clamped then .PARTIAL else .DONE

/-- The reason that goes with `clampClass`. -/
def clampReason (clamped : Bool) : Reason := if clamped then .CLAMPED else .NONE

/-! ### Words for the commands that move calls and agents -/

/-- The admission test of R7, in full. -/
def State.Admits (s : State) (q : QueueId) : Prop :=
  (s.queue q).defined = true ∧ ((s.queue q).mode = .OPEN ∨ (s.queue q).mode = .STAGING) ∧
    (s.queue q).waiting.length + s.offeredCount q < (s.queue q).params.capacity

/-- A walk from `q` skips its own queue `own`, finds every other queue of `path` refusing, in order along the overflow
targets, and the queue after them accepting, within four hops (R9). The own queue is that of a QUEUED call that C_MOVE
moves, counted as visited from the start; any other walk has none (R10). -/
structure State.WalksTo (s : State) (own : Option QueueId) (q : QueueId) (path : List QueueId)
    (accepting : QueueId) : Prop where
  start : (path ++ [accepting]).head? = some q
  nodup : (path ++ [accepting]).Nodup
  chain : List.IsChain (fun a b => (s.queue a).params.overflowTarget = some b) (path ++ [accepting])
  hops : path.length ≤ 4
  refuse : ∀ r ∈ path, own = some r ∨ ¬ s.Admits r
  accept : s.Admits accepting ∧ own ≠ some accepting

/-- A walk from `q` skips its own queue, finds every other queue of `path` refusing and ends there: the fourth hop has
been taken, or no target follows, or the target has been visited (R9, R10). -/
structure State.WalkEndsAt (s : State) (own : Option QueueId) (q : QueueId) (path : List QueueId)
    (last : QueueId) : Prop where
  start : (path ++ [last]).head? = some q
  nodup : (path ++ [last]).Nodup
  chain : List.IsChain (fun a b => (s.queue a).params.overflowTarget = some b) (path ++ [last])
  hops : path.length ≤ 4
  refuse : ∀ r ∈ path ++ [last], own = some r ∨ ¬ s.Admits r
  ends : path.length = 4 ∨ ∀ n, (s.queue last).params.overflowTarget = some n → n ∈ path ++ [last]

/-- A queue's record with one diversion counted when it is defined (R11). -/
def Queue.divertedOnce (r : Queue) : Queue :=
  if r.defined then { r with counters := { r.counters with diverted := satAdd r.counters.diverted 1 } } else r

/-- The queues after a walk of own queue `own` past the queues of `path`: each counted once, but for the own queue,
which is skipped (R10, R11). -/
def State.passed (s : State) (own : Option QueueId) (path : List QueueId) (x : QueueId) : Queue :=
  if x ∈ path ∧ own ≠ some x then (s.queue x).divertedOnce else s.queue x

/-- A queue's record with one more call counted as entered. -/
def Queue.enteredOnce (r : Queue) : Queue :=
  { r with counters := { r.counters with entered := satAdd r.counters.entered 1 } }

/-- Nothing in queue `q` can be offered: its mode lacks DISTRIBUTE or no agent of the ready list qualifies (R68). -/
def State.NoOffer (s : State) (q : QueueId) : Prop :=
  (s.queue q).mode.distribute = false ∨ ∀ a ∈ s.readyList, (s.agent a).qualifies (s.queue q) = false

/-- A deadline `n` seconds after T (R168). -/
def State.inSeconds (s : State) (n : Nat) : Deadline :=
  ⟨min (s.now + n) Config.maxU32, decide (Config.maxU32 ≤ s.now)⟩

/-- The audio of a call whose treatment has begun in queue `q`, the pool players in `free` being IDLE (R151). -/
def State.Treated (s : State) (q : QueueId) (free : PoolId → Prop) (c : Call) : Prop :=
  let r := s.queue q
  let next := if r.params.announceMode ≠ .NONE ∧ r.params.announceInterval ≠ 0 then
    some (s.inSeconds r.params.announceInterval) else none
  let greets := ∃ g, r.params.greeting = some g ∧ s.store.clip g ≠ none
  (greets → ∀ p, free p → (∀ p' < p, ¬ free p') →
    c.audio = .GREETING ∧ c.channel = some (16 + p.val) ∧ c.poolPlayer = some p ∧ c.nextAnnouncement = none) ∧
  ((¬ greets ∨ ∀ p, ¬ free p) →
    c.poolPlayer = none ∧ c.nextAnnouncement = next ∧
    (∀ pr, r.params.programme = some pr → c.audio = .MUSIC ∧ c.channel = some pr.val) ∧
    (r.params.programme = none → c.audio = .SILENT ∧ c.channel = none))

/-- The AUDIO mark has been set on call `k` between two states (R151, R189): while the ring is full the mark stands and
the call is in the backlog, and into a ring with room and no backlog a notice has been posted. -/
structure State.AudioReported (s t : State) (k : CallId) : Prop where
  waits : s.ringRoom = 0 → (t.call k).marks.audio = true ∧ RecordRef.call k ∈ t.notices.backlog
  posts : s.notices.backlog = [] → 0 < s.ringRoom →
    s.notices.posted ≠ t.notices.posted ∧ t.port.causes.notice = true

/-- Agent `a` goes before agent `b` under the policy of a queue (R67, Table 4-1). -/
def State.GoesBefore (s : State) (r : Queue) (a b : AgentId) : Prop :=
  let level := fun x : AgentId =>
    (((s.agent x).skills.find? fun k => k.id = r.params.skill).map (·.level)).getD 0
  let occupied := fun x : AgentId =>
    min ((s.agent x).counters.talkSeconds + (s.agent x).counters.wrapSeconds) 4294967295
  let earlier := (s.agent a).readySince < (s.agent b).readySince ∨
    ((s.agent a).readySince = (s.agent b).readySince ∧ a < b)
  (r.params.policy = .LONGEST_READY → earlier) ∧
  (r.params.policy = .BEST_LEVEL → level b < level a ∨ (level b = level a ∧ earlier)) ∧
  (r.params.policy = .LEAST_OCCUPIED → occupied a < occupied b ∨ (occupied a = occupied b ∧ earlier))

/-- The agents to whom a sweep of a queue offers its head calls, in their order: each is a READY agent that qualifies
and goes before every other that does and has not been taken before it (R67, R68). -/
structure State.SweepTakes (s : State) (r : Queue) (agents : List AgentId) : Prop where
  nodup : agents.Nodup
  chosen : ∀ i a, agents[i]? = some a → a ∈ s.readyList ∧ (s.agent a).qualifies r = true ∧
    ∀ b ∈ s.readyList, (s.agent b).qualifies r = true → b ∉ agents.take (i + 1) → s.GoesBefore r a b

/-- The end of agent `a`'s wrap for queue `q` with `talk` and `w` seconds and pending `pend`: counted to the agent and
to the queue, the AHT moved, the wrap fields cleared and the pending applied (R99 to R101, R116). -/
structure State.WrapEnds (s t : State) (a : AgentId) (q : QueueId) (talk w : Nat) (pend : PendingChange) : Prop where
  agentCounters : (t.agent a).counters =
    { (s.agent a).counters with
      callsHandled := satAdd (s.agent a).counters.callsHandled 1
      talkSeconds := satAdd (s.agent a).counters.talkSeconds talk
      wrapSeconds := satAdd (s.agent a).counters.wrapSeconds w }
  queueCounters : (t.queue q).counters =
    { (s.queue q).counters with
      handled := satAdd (s.queue q).counters.handled 1
      talkTotal := satAdd (s.queue q).counters.talkTotal talk
      wrapTotal := satAdd (s.queue q).counters.wrapTotal w }
  aht : ((t.queue q).aht : Int) =
    max 0 ((s.queue q).aht + Int.tdiv (16 * (min (max (talk + w) 1) 3600 : Nat) - (s.queue q).aht) 8)
  parameters : (t.queue q).params = (s.queue q).params ∧ (t.queue q).mode = (s.queue q).mode
  otherQueues : ∀ r, r ≠ q → (t.queue r).counters = (s.queue r).counters ∧ (t.queue r).aht = (s.queue r).aht
  cleared : (t.agent a).wrapQueue = 0 ∧ (t.agent a).wrapTalk = 0 ∧ (t.agent a).wrapStart = 0 ∧
    (t.agent a).wrapDeadline.due = 0 ∧ (t.agent a).wrapLimit = 0 ∧ (t.agent a).pending = .NONE
  kept : (t.agent a).station = (s.agent a).station ∧ (t.agent a).skills = (s.agent a).skills
  entry : (t.agent a).stateEntry = s.now
  none : pend = .NONE → (t.agent a).readySince = s.now ∧
    ((t.agent a).state = .READY ∧ a ∈ t.readyList ∨ (t.agent a).state = .OFFERED)
  away : ∀ r, pend = .AWAY r → (t.agent a).state = .AWAY ∧ (t.agent a).awayReason = r
  logout : pend = .LOGOUT → (t.agent a).state = .LOGGED_OUT

/-- The AGENT mark has been set on agent `a` between two states (R102, R189): while the ring is full the mark stands
and the agent is in the backlog, and into a ring with room and no backlog a notice has been posted. -/
structure State.AgentReported (s t : State) (a : AgentId) : Prop where
  waits : s.ringRoom = 0 → (t.agent a).mark = true ∧ RecordRef.agent a ∈ t.notices.backlog
  posts : s.notices.backlog = [] → 0 < s.ringRoom →
    s.notices.posted ≠ t.notices.posted ∧ t.port.causes.notice = true

/-- No AGENT mark has been set on agent `a` between two states (R102): a mark that stands stood before, and when the
agent is offered no call no notice has been posted. -/
structure State.AgentNotReported (s t : State) (a : AgentId) : Prop where
  mark : (t.agent a).mark = true → (s.agent a).mark = true
  backlog : RecordRef.agent a ∈ t.notices.backlog → RecordRef.agent a ∈ s.notices.backlog
  quiet : (t.agent a).state ≠ .OFFERED → t.notices = s.notices ∧ t.bus = s.bus

/-- Two call records that differ at most in what the notice unit writes: the marks with their companions, and the
start of the offer timer (R191, R193). -/
def Call.SameButNotices (c d : Call) : Prop :=
  d = { c with
    marks := d.marks, movedFrom := d.movedFrom, withdrawnAgent := d.withdrawnAgent, offerPosted := d.offerPosted,
    offerDeadline := d.offerDeadline }

/-- Two agent records that differ at most in the AGENT mark. -/
def Agent.SameButMark (g h : Agent) : Prop := h = { g with mark := h.mark }

/-! ### Words for the clip store, the players and the frames -/

/-- B(k) of R127. -/
def ClipStore.boundary (st : ClipStore) (k : SegmentId) : Nat := st.bounds[k.val]

/-- B(k - 1) of R127, with B(-1) = 0. -/
def ClipStore.boundaryBefore (st : ClipStore) (k : SegmentId) : Nat := if k = 0 then 0 else st.boundary (k - 1)

/-- A player that has taken up the clip of an entry at a place of its list (R144). -/
def ClipStore.taken (st : ClipStore) (place : Nat) (e : ClipEntry) : Player :=
  { clipIndex := place
    clip := some
      { segment := e.segment, base := st.boundaryBefore e.segment * 1024
        size := (st.boundary e.segment - st.boundaryBefore e.segment) * 1024, start := e.start, length := e.length }
    position := 0
    silentClip := !(st.attr e.segment).play
    held := none }

/-- The pool players once treatment of call `k` has begun in queue `q`, the player `freed` released before it: the one
the call has taken plays the greeting alone, and every other is as before (R149, R151). -/
structure State.PoolTaken (s t : State) (q : QueueId) (k : CallId) (freed : Option PoolId) : Prop where
  taken : ∀ p, (t.call k).poolPlayer = some p → ∃ g e, (s.queue q).params.greeting = some g ∧
    s.store.clip g = some e ∧
    t.pool p = { state := .PLAYING, owner := some (s.handle k), script := [g], player := s.store.taken 0 e }
  others : ∀ p, (t.call k).poolPlayer ≠ some p → t.pool p = if freed = some p then State.reset.pool p else s.pool p

/-- The entry of the clip at a place of a list; none when there is no such place or its clip is EMPTY. -/
def ClipStore.entryAt (st : ClipStore) (clips : List ClipId) (place : Nat) : Option ClipEntry :=
  (clips[place]?).bind st.clip

/-- Examined from a place onward with one wrap, the first clip of a list that is not EMPTY stands at `place` (R147). -/
def ClipStore.Finds (st : ClipStore) (clips : List ClipId) (start place : Nat) (e : ClipEntry) : Prop :=
  ∃ j, j < clips.length ∧ place = (start + j) % clips.length ∧ st.entryAt clips place = some e ∧
    ∀ i < j, st.entryAt clips ((start + i) % clips.length) = none

/-- A player with a clip in play sends byte `b` and becomes `q`: the conditions of R145 in their order. -/
structure Player.Sends (p : Player) (st : ClipStore) (c : CapturedClip) (b : Byte) (q : Player) : Prop where
  silent : p.silentClip = true → b = 0x80 ∧ q = { p with position := p.position + 1 }
  beyond : p.silentClip = false → c.size ≤ c.start + p.position → b = 0x80 ∧ q = { p with position := p.position + 1 }
  holds : ∀ h, p.silentClip = false → c.start + p.position < c.size → p.held = some h →
    h.group = (c.base + c.start + p.position) / 4 →
    b = h.byteAt (c.base + c.start + p.position) ∧ q = { p with position := p.position + 1 }
  withdrawn : p.silentClip = false → c.start + p.position < c.size →
    (∀ h, p.held = some h → h.group ≠ (c.base + c.start + p.position) / 4) → (st.attr c.segment).play = false →
    b = 0x80 ∧ q = { p with position := p.position + 1, silentClip := true }
  reads : p.silentClip = false → c.start + p.position < c.size →
    (∀ h, p.held = some h → h.group ≠ (c.base + c.start + p.position) / 4) → (st.attr c.segment).play = true →
    b = Memory.read st.memory (c.base + c.start + p.position) ∧
    ∃ h : HeldGroup, h.group = (c.base + c.start + p.position) / 4 ∧
      h.b0 = Memory.read st.memory (4 * h.group) ∧ h.b1 = Memory.read st.memory (4 * h.group + 1) ∧
      h.b2 = Memory.read st.memory (4 * h.group + 2) ∧ h.b3 = Memory.read st.memory (4 * h.group + 3) ∧
      q = { p with position := p.position + 1, held := some h }

/-- A frame has been sent between two states: its 64 samples by Table 9-1, and every player advanced (R145, R147,
R163). -/
structure State.FrameSent (s t : State) : Prop where
  length : t.frame.length = 64
  count : t.framesSent = s.framesSent + 1
  unused : ∀ i, 48 ≤ i → i < 64 → t.frame[i]? = some 0x80
  idle : ∀ p, (s.pool p).state = .IDLE → t.frame[16 + p.val]? = some 0x80 ∧ t.pool p = s.pool p
  pool : ∀ p c, (s.pool p).state = .PLAYING → (s.pool p).player.clip = some c → ∃ b q,
    t.frame[16 + p.val]? = some b ∧ (s.pool p).player.Sends s.store c b q ∧
    ((s.pool p).player.position + 1 < c.length → t.pool p = { s.pool p with player := q })
  silence : ∀ p, (s.broadcastPlayer p).clip = none →
    ((s.programme p).enabled = false ∨ ∀ c ∈ (s.programme p).clips, s.store.clip c = none) →
    t.frame[p.val]? = some 0x80 ∧ (t.broadcastPlayer p).clip = none ∧
      (t.broadcastPlayer p).clipIndex = (s.broadcastPlayer p).clipIndex
  seeks : ∀ p i e, (s.broadcastPlayer p).clip = none → (s.programme p).enabled = true →
    s.store.Finds (s.programme p).clips (s.broadcastPlayer p).clipIndex i e → ∃ b q c,
      (s.store.taken i e).clip = some c ∧ t.frame[p.val]? = some b ∧ (s.store.taken i e).Sends s.store c b q ∧
      (1 < e.length → t.broadcastPlayer p = q) ∧
      (e.length ≤ 1 → ∀ i' e', s.store.Finds (s.programme p).clips (i + 1) i' e' →
        t.broadcastPlayer p = s.store.taken i' e')
  plays : ∀ p c, (s.broadcastPlayer p).clip = some c → ∃ b q,
    t.frame[p.val]? = some b ∧ (s.broadcastPlayer p).Sends s.store c b q ∧
    ((s.broadcastPlayer p).position + 1 < c.length → t.broadcastPlayer p = q) ∧
    (c.length ≤ (s.broadcastPlayer p).position + 1 → (s.programme p).enabled = true → ∀ i e,
      s.store.Finds (s.programme p).clips ((s.broadcastPlayer p).clipIndex + 1) i e →
      t.broadcastPlayer p = s.store.taken i e) ∧
    (c.length ≤ (s.broadcastPlayer p).position + 1 →
      ((s.programme p).enabled = false ∨ ∀ c ∈ (s.programme p).clips, s.store.clip c = none) →
      (t.broadcastPlayer p).clip = none ∧
        (0 < (s.programme p).clips.length →
          (t.broadcastPlayer p).clipIndex =
            ((s.broadcastPlayer p).clipIndex + 1) % (s.programme p).clips.length))

/-- What the sending of a frame leaves as it is: the library, the queues and their lists, and every call that holds
no pool player and every agent, but for the notices that may be posted. -/
structure State.AroundFrame (s t : State) : Prop where
  store : t.store = s.store
  programmes : t.treatment.programmes = s.treatment.programmes
  speech : t.treatment.speech = s.treatment.speech
  queues : t.queues = s.queues ∧ t.joinSeq = s.joinSeq ∧ t.readyList = s.readyList
  calls : ∀ k, (s.call k).poolPlayer = none → (s.call k).SameButNotices (t.call k)
  agents : ∀ a, (s.agent a).SameButMark (t.agent a)
  taken : t.notices.taken = s.notices.taken
  loadReads : t.loadReads = s.loadReads
  pending : t.pending = s.pending

/-- The time base with an outstanding second boundary taken (log entry 4, DEDUCED). -/
def TimeBase.settled (b : TimeBase) : TimeBase :=
  if 8000 ≤ b.periodCount then
    { b with
      periodCount := b.periodCount - 8000
      time := if b.time < 4294967295 then b.time + 1 else b.time }
  else b

/-! ### Words for announcements and notices -/

/-- The speech-table entries that speak a number in 1..99 (R160). -/
def spoken (v : Nat) : List Nat :=
  if v < 20 then [v - 1] else (17 + v / 10) :: (if v % 10 = 0 then [] else [v % 10 - 1])

/-- The clips of speech-table entries, those absent or EMPTY left out (R161). -/
def State.clipsSpoken (s : State) (entries : List (Fin 31)) : List ClipId :=
  entries.filterMap fun e => (s.treatment.speech[e.val]).bind fun c => if s.store.clip c = none then none else some c

/-- A number as an entry of the speech table. -/
def speechEntry (n : Nat) : Fin 31 := Fin.ofNat 31 n

/-- The script of an announcement of mode `m` for position `p`, the estimate being `ewt` seconds (R159 to R161,
Table 8-8, R120). -/
def State.announcementScript (s : State) (m : AnnounceMode) (p ewt : Nat) : List ClipId :=
  let position := [27] ++ spoken (max 1 (min p 99)) ++ [28]
  let minutes := [29] ++ spoken (max 1 (min ((ewt + 59) / 60) 99)) ++ [30]
  s.clipsSpoken (match m with
    | .NONE => []
    | .POSITION => position.map speechEntry
    | .WAIT => minutes.map speechEntry
    | .BOTH => (position ++ minutes).map speechEntry)

/-- The four words of a notice stand at a slot of the ring: kind, record and fields by Table 10-6. -/
structure State.SlotHolds (t : State) (slot : Nat) (kind record : Nat) (w1 w2 : Word) (time : Nat) : Prop where
  kind : ∀ w, t.hostWord slot = some w → (w.extractLsb' 24 8).toNat = kind ∧ (w.extractLsb' 0 16).toNat = record ∧
    w.extractLsb' 16 8 = 0
  first : t.hostWord (slot + 4) = some w1
  second : t.hostWord (slot + 8) = some w2
  third : t.hostWord (slot + 12) = some (word time)
  written : (t.hostWord slot).isSome = true

end Sys2Proof.Machine
end

