-- ==== Sys2Proof/WellFormed.lean ====
section
/-! DEFINITION. The commands whose operands can stand: a block of a request fits the length field, a fixed list has
its entries, and an event names words that can exist. -/

namespace Sys2Proof

/-- The operands of the command can stand on the bus. -/
def Instr.wellFormed : Instr → Bool
  -- a block has at most 64 words (R174, step 2)
  | .aLogin _ _ _ _ _ l => decide (l.length ≤ 58)
  | .aSkills _ _ l => decide (l.length ≤ 61)
  | .progDefine _ _ _ l => decide (l.length ≤ 60)
  -- lists of fixed length (Table 10-8)
  | .sMap _ l => decide (l.length = 32)
  | .speechDefine _ l => decide (l.length = 31)
  -- the further words of a refused block are all read or none is (R174)
  | .fetchRefused w0 rest => decide (rest = [] ∨ rest.length + 1 = headerLength w0)
  -- a block has at most 64 words
  | .fetchBusFault index _ => decide (index < 64)
  -- a reply has at most 192 entry words and 64 reply words (R177)
  | .replyWriteFault n => decide (n < 256)
  | .portReset _ n => decide (n < 256)
  -- a write that is not one of the four registers (R172)
  | .undecodedWrite off _ => decide (off ∉ registerOffsets)
  | .powerOn | .fillComplete | .reqaddrWrite _ | .replyComplete | .takenIndexWrite _ | .causeClear _ => true
  | .setup _ _ _ _ _ | .qDefine _ _ | .qMode _ _ _ | .qQuery _ _ | .qList _ _ _ _ _ | .qCounters _ _ _ => true
  | .cArrive _ _ _ _ | .cAnswer _ _ _ | .cEnd _ _ | .cMove _ _ _ | .cClass _ _ _ | .cQuery _ _ => true
  | .aLogout _ _ | .aSet _ _ _ _ _ | .aQuery _ _ | .aCounters _ _ _ | .wExtend _ _ _ | .wEnd _ _ => true
  | .sAttr _ _ _ | .sLoad _ _ _ _ _ | .clipDefine _ _ _ _ _ => true
  | .loadGroupWrite _ _ _ _ | .loadComplete | .loadBusFault => true
  | .frameSync _ | .oscillatorPeriod | .secondBoundary | .holdoverEntry | .holdoverFrameSync _ | .runTimeout => true
  | .offerExpiry _ | .overflowExpiry _ | .wrapExpiry _ | .announcementDue _ => true

end Sys2Proof
end

