-- ==== Sys2Proof/Certificates/Slice0/Obligations.lean ====
section
/-! DEFINITION. The statements of this model for the provers. Rule numbers are those of spec/; log entry n is
notes/assumptions/n.md. -/

section
open Sys2Proof Sys2Proof.Machine

/-! ### The machine -/

/-- A step runs the command at the front of the queue on the state with the queue's rest. The queue of commands is
the model's choice (log entry 1). -/
def Obligations.StepRunsTheFrontCommand : Prop :=
  ∀ (c : Instr) (rest : List Instr) (s : State), s.pending = c :: rest →
    step s = exec c { s with pending := rest }

/-- Every command that can stand goes on to a next state, and leaves the commands waiting behind it as they are. The
queue of commands, that a command outside its condition goes on and leaves the state, and the operands UNDECODED_WRITE
leaves out are the model's choices (log entries 1, 2, 17). -/
def Obligations.EveryWellFormedCommandGoesOn : Prop :=
  ∀ (c : Instr) (s : State), c.wellFormed = true → ∃ t, exec c s = .next t ∧ t.pending = s.pending

/-- The four registers read the fields that Table 10-4 lays out in them, and 0 at every bit it does not name. At any
other offset a read returns 0 and a write changes nothing (R172). At one of the four offsets UNDECODED_WRITE is no
undecoded write, and stops: the model's choice (log entry 17). -/
def Obligations.RegistersReadTheirFields : Prop :=
  ∀ s : State,
    (∀ offset value : Word,
      ((offset ≠ 0x0 ∧ offset ≠ 0x4 ∧ offset ≠ 0x8 ∧ offset ≠ 0xC) →
        exec (.undecodedWrite offset value) s = .next s ∧ s.readRegister offset = 0) ∧
      ((offset = 0x0 ∨ offset = 0x4 ∨ offset = 0x8 ∨ offset = 0xC) →
        exec (.undecodedWrite offset value) s = .fault .decodedOffset)) ∧
    s.readRegister 0x0 = s.port.address ∧
    ((s.readRegister 0x4).getLsbD 0 = decide (s.port.state = .INITIALISING) ∧
      (s.readRegister 0x4).getLsbD 1 = decide (s.port.state = .IDLE) ∧
      (s.readRegister 0x4).getLsbD 2 = s.port.setup.isSome ∧
      (s.readRegister 0x4).getLsbD 3 = s.port.overrun ∧
      (s.readRegister 0x4).getLsbD 4 = decide (s.timeBase.highway = .HOLDOVER) ∧
      (s.readRegister 0x4).extractLsb' 5 11 = 0 ∧
      ((s.readRegister 0x4).extractLsb' 16 2).toNat = s.port.lastClass.code ∧
      (s.readRegister 0x4).extractLsb' 18 6 = 0 ∧
      ((s.readRegister 0x4).extractLsb' 24 5).toNat = s.port.lastReason.code ∧
      (s.readRegister 0x4).extractLsb' 29 3 = 0) ∧
    (s.port.setup.isSome = true →
      (s.readRegister 0x8).extractLsb' 0 16 = s.notices.posted ∧
      (s.readRegister 0x8).extractLsb' 16 16 = s.notices.taken) ∧
    (s.port.setup = none → s.readRegister 0x8 = 0) ∧
    ((s.readRegister 0xC).getLsbD 0 = s.port.causes.reply ∧ (s.readRegister 0xC).getLsbD 1 = s.port.causes.notice ∧
      (s.readRegister 0xC).getLsbD 2 = s.port.causes.clock ∧ (s.readRegister 0xC).extractLsb' 3 29 = 0)

/-! ### Power-on, reset and the port -/

/-- The reset state holds the values of Tables 1-2, 2-2, 3-2, 7-1, 8-2, 9-2 and 10-1, and POWER_ON gives every block
those values in any state. What lies outside the part (the waiting commands, host memory with the accesses made to it,
the coming bus faults) and the bytes of the store until the fill completes are kept: the model's choice (log entries 7,
10). The completion of the fill puts the silence code in every byte of the store and takes the port to IDLE, setting no
cause (R125, R185); without a fill in progress it does not happen: the model's choice (log entry 2). The values no table
gives, the held groups, the reply and the last frame, are the model's choice (log entry 16). -/
def Obligations.PowerOnAndItsFillGiveTheResetValues : Prop :=
  (∀ q, State.reset.queue q =
    { defined := false, mode := .SHUT
      params :=
        { skill := 0, minLevel := 1, capacity := 0, weight := 1, skillGain := 0, classBoost := 0, guard := 0,
          policy := .LONGEST_READY, answerTimeout := 20, wrapBase := 0, wrapExtensionMax := 0, overflowTarget := none,
          overflowAfter := 0, carryWait := false, serviceTarget := 20, serviceGoal := 800, shortAbandon := 0,
          greeting := none, programme := none, announceMode := .NONE, announceInterval := 0 }
      aht := 960
      counters := ⟨0, 0, 0, 0, 0, 0, 0, 0, 0, 0, 0, 0⟩
      waiting := [] }) ∧
  State.reset.joinSeq = 0 ∧
  (∀ k, State.reset.call k =
    { state := .FREE, gen := 0, callerTag := 0, queue := 0, arrival := 0, entry := 0, cls := 0, joinSeq := 0,
      moveCount := 0, overflowSpent := false, overflowDue := false, agent := none, savedReadySince := none,
      offerPosted := false, offerDeadline := none, talkStart := none, audio := .SILENT, channel := none,
      poolPlayer := none, nextAnnouncement := none, marks := ⟨false, false, false, false⟩, movedFrom := none,
      withdrawnAgent := none }) ∧
  (∀ a, State.reset.agent a =
    { state := .LOGGED_OUT, station := 0, skills := [], awayReason := 0, readySince := 0, call := none,
      wrapQueue := 0, wrapTalk := 0, wrapStart := 0, wrapDeadline := ⟨0, false⟩, wrapLimit := 0, pending := .NONE,
      stateEntry := 0, counters := ⟨0, 0, 0, 0, 0⟩, mark := false }) ∧
  State.reset.readyList = [] ∧
  (∀ k : SegmentId, State.reset.store.bounds[k.val] = 0 ∧ State.reset.store.attr k = ⟨false, false⟩) ∧
  (∀ c : ClipId, State.reset.store.clip c = none) ∧ State.reset.store.load = none ∧
  (∀ p : ProgrammeId, State.reset.treatment.broadcast[p.val].clipIndex = 0 ∧
    State.reset.treatment.broadcast[p.val].clip = none ∧ State.reset.treatment.broadcast[p.val].position = 0 ∧
    State.reset.treatment.broadcast[p.val].silentClip = false ∧
    State.reset.treatment.programmes[p.val] = ⟨false, []⟩) ∧
  (∀ p, (State.reset.pool p).state = .IDLE ∧ (State.reset.pool p).owner = none ∧ (State.reset.pool p).script = [] ∧
    (State.reset.pool p).player.clipIndex = 0 ∧ (State.reset.pool p).player.clip = none ∧
    (State.reset.pool p).player.position = 0 ∧ (State.reset.pool p).player.silentClip = false) ∧
  (∀ e : Fin 31, State.reset.treatment.speech[e.val] = none) ∧
  State.reset.timeBase = { highway := .HOLDOVER, periodCount := 0, time := 0, run := none, lastSync := none } ∧
  (State.reset.port.state = .INITIALISING ∧ State.reset.port.address = 0 ∧ State.reset.port.overrun = false ∧
    State.reset.port.lastClass = .DONE ∧ State.reset.port.lastReason = .NONE ∧ State.reset.port.setup = none ∧
    State.reset.port.enables = ⟨false, false, false⟩ ∧ State.reset.port.causes = ⟨false, false, false⟩) ∧
  State.reset.notices = { posted := 0, taken := 0, backlog := [] } ∧
  ∀ s : State,
    exec .powerOn s = .next
      { State.reset with
        store := { State.reset.store with memory := s.store.memory }
        pending := s.pending
        bus := s.bus
        ringFaults := s.ringFaults
        loadReads := s.loadReads } ∧
    (s.port.state = .INITIALISING → ∃ m, exec .fillComplete s = .next
      { s with store := { s.store with memory := m }, port := { s.port with state := .IDLE } } ∧
      ∀ a, Memory.read m a = 0x80) ∧
    (s.port.state ≠ .INITIALISING → exec .fillComplete s = .next s)

/-- R164: POWER_ON sets the time base as Table 9-2 gives and sets no CLOCK cause; a port reset leaves every field of
it as it stands, the highway state, the regular run and the last frame sync among them. -/
def Obligations.TimeBaseThroughResets : Prop :=
  ∀ (value : Word) (n : Nat) (s : State),
    (∃ t, exec .powerOn s = .next t ∧
      t.timeBase = { highway := .HOLDOVER, periodCount := 0, time := 0, run := none, lastSync := none } ∧
      t.port.causes.clock = false) ∧
    (∃ t, exec (.portReset value n) s = .next t ∧ t.timeBase = s.timeBase)

/-- A port reset gives every block its own reset (R183): queues, calls with advanced generations, agents at T, pool
players, ring and port; and it keeps the library, the broadcast players, the time base and the request address. It
writes no word 0 of a reply (R184), and writes nothing outside REPLYING. How many words of a reply stand is the
command's operand, and that they are the first of its words in a fixed order is the model's choice (log entry 20). A
reset pool player holds no group and no reply stands: the model's choice (log entry 16). -/
def Obligations.PortResetClearsTheRecords : Prop :=
  ∀ (value : Word) (n : Nat) (s : State), ∃ t, exec (.portReset value n) s = .next t ∧
    (∀ q, t.queue q = State.reset.queue q) ∧ t.joinSeq = 0 ∧
    (∀ k, t.call k = .free (if (s.call k).state = .FREE then (s.call k).gen else (s.call k).gen + 1)) ∧
    (∀ a, t.agent a = { State.reset.agent a with stateEntry := s.now }) ∧ t.readyList = [] ∧
    t.store = { s.store with load := none } ∧
    (∀ p, t.pool p = State.reset.pool p) ∧ t.treatment.broadcast = s.treatment.broadcast ∧
    t.treatment.programmes = s.treatment.programmes ∧ t.treatment.speech = s.treatment.speech ∧
    t.timeBase = s.timeBase ∧ t.notices = { posted := 0, taken := 0, backlog := [] } ∧
    t.port =
      { State.reset.port with
        state := if s.port.state = .INITIALISING then .INITIALISING else .IDLE, address := s.port.address } ∧
    t.interruptLine = false ∧ t.frame = s.frame ∧ t.framesSent = s.framesSent ∧ t.pending = s.pending ∧
    t.loadReads = s.loadReads ∧ (s.port.state ≠ .REPLYING ∨ s.port.setup = none ∨ s.port.reply = none → t.bus = s.bus) ∧
    (∀ u, s.port.setup = some u → t.hostWord u.replyArea = s.hostWord u.replyArea) ∧
    (∀ u r, s.port.state = .REPLYING → s.port.setup = some u → s.port.reply = some r → r.payload.length ≤ 62 →
      r.entries.length ≤ 192 → s.Wrote t ((r.bodyWords u.replyArea).take n))

/-- A write to REQADDR is taken in IDLE and starts the fetch; at an address that is no multiple of 4 it is refused
BAD_VALUE with code and tag echo 0; in any other state it sets OVERRUN and nothing else (R173, R180). -/
def Obligations.ReqaddrWriteTakesOrOverruns : Prop :=
  ∀ (address : Word) (s : State),
    (s.port.state = .IDLE → address.toNat % 4 = 0 → exec (.reqaddrWrite address) s = .next
      { s with port := { s.port with address := address, overrun := false, state := .FETCHING } }) ∧
    (s.port.state = .IDLE → address.toNat % 4 ≠ 0 → s.port.setup.isSome = true →
      exec (.reqaddrWrite address) s = .next
        { s with
          port := ({ s.port with address := address, overrun := false } : Port).replying
            .REFUSED .BAD_VALUE 0 0 0 [] [] }) ∧
    (s.port.state = .IDLE → address.toNat % 4 ≠ 0 → s.port.setup = none →
      exec (.reqaddrWrite address) s = .next
        { s with
          port := ({ s.port with address := address, overrun := false } : Port).completed .REFUSED .BAD_VALUE }) ∧
    (s.port.state ≠ .IDLE → exec (.reqaddrWrite address) s = .next
      { s with port := { s.port with overrun := true } })

/-- The ends of a fetch before any request is taken: the tests of R174 in their order, and the bus faults of R175, each
with its echo, replied to or, while setup is absent, completed at once (R180); no record changes. That the residual is 0
when the code is that of Q_LIST or S_LOAD too is the model's choice (log entry 13). -/
def Obligations.FetchesEndBeforeAnyRequest : Prop :=
  ∀ (w0 : Word) (rest : List Word) (index : Nat) (s : State), s.port.state = .FETCHING →
    let len := (w0.extractLsb' 16 7).toNat
    let code := w0.extractLsb' 24 8
    let tag := w0.extractLsb' 0 16
    let known := s.port.setup.isSome = true ∨ code = 0x01
    (len = 0 ∨ 64 < len →
      exec (.fetchRefused w0 rest) s = .next (s.refusedAtPort .REFUSED .BAD_LENGTH code tag)) ∧
    (1 ≤ len ∧ len ≤ 64 → ¬ known →
      exec (.fetchRefused w0 rest) s = .next (s.refusedAtPort .REFUSED .NEED_SETUP code tag)) ∧
    (1 ≤ len ∧ len ≤ 64 → known → code ∉ requestCodes →
      exec (.fetchRefused w0 rest) s = .next (s.refusedAtPort .REFUSED .BAD_CODE code tag)) ∧
    (1 ≤ len ∧ len ≤ 64 → known → code ∈ requestCodes → rest.length + 1 = len →
      expectedLength code rest ≠ some len →
      exec (.fetchRefused w0 rest) s = .next (s.refusedAtPort .REFUSED .BAD_LENGTH code tag)) ∧
    exec (.fetchBusFault 0 w0) s = .next (s.refusedAtPort .FAULT .BUS_FAULT 0 0) ∧
    (1 ≤ len ∧ len ≤ 64 → known → code ∈ requestCodes → 1 ≤ index ∧ index < len →
      exec (.fetchBusFault index w0) s = .next (s.refusedAtPort .FAULT .BUS_FAULT code tag))

/-- A reply is written where Table 10-4 lays it out, word 0 last, and the request completes (R177). A fault on a reply
word leaves it and the words after it unwritten, word 0 among them, and completes with FAULT BUS_FAULT (R179). The order
within the entries and within the payload is the model's choice (log entry 20). -/
def Obligations.RepliesEndWithWordZero : Prop :=
  ∀ (s : State) (r : Reply) (u : Setup) (n : Nat),
    s.port.state = .REPLYING → s.port.reply = some r → s.port.setup = some u → r.payload.length ≤ 62 →
    r.entries.length ≤ 192 →
    (∃ w0 : Word, ∃ bus, exec .replyComplete s = .next
        { s with bus := ⟨u.replyArea, w0⟩ :: bus, port := s.port.completed r.cls r.reason } ∧
      (w0.extractLsb' 30 2).toNat = r.cls.code ∧ (w0.extractLsb' 24 5).toNat = r.reason.code ∧
      w0.extractLsb' 16 8 = r.code ∧ w0.extractLsb' 0 16 = r.tag ∧ w0.getLsbD 29 = false ∧
      (let t : State := { s with bus := ⟨u.replyArea, w0⟩ :: bus };
        t.hostWord (u.replyArea + 4) = some (word r.residual) ∧
        (∀ i, i < r.payload.length → t.hostWord (u.replyArea + 8 + 4 * i) = r.payload[i]?) ∧
        (∀ i, i < r.entries.length → t.hostWord (u.replyArea + 256 + 4 * i) = r.entries[i]?) ∧
        (∀ a, (a < u.replyArea ∨ u.replyArea + 8 + 4 * r.payload.length ≤ a) →
          (a < u.replyArea + 256 ∨ u.replyArea + 256 + 4 * r.entries.length ≤ a) →
          t.hostWord a = s.hostWord a))) ∧
    (n < r.entries.length + r.payload.length + 2 →
      ∃ t, exec (.replyWriteFault n) s = .next t ∧
        t = { s with bus := t.bus, port := s.port.completed .FAULT .BUS_FAULT } ∧
        t.hostWord u.replyArea = s.hostWord u.replyArea ∧ t.bus.length = s.bus.length + n ∧
        s.Wrote t ((r.bodyWords u.replyArea).take n))

/-- A write of the taken index is ignored while setup is absent and when it would leave more than the count
outstanding; an accepted one that frees no slot only moves the index; one that frees slots lets the backlog drain until
it is empty or the ring is full, and touches no more than marks, offer timers, the NOTICE cause and the slots of the
ring that the posted index passes (R187, R188). -/
def Obligations.TakenIndexWritesFreeSlots : Prop :=
  ∀ (value : Word) (s : State),
    let new : BitVec 16 := value.extractLsb' 0 16
    let after := (s.notices.posted - new).toNat
    let before := (s.notices.posted - s.notices.taken).toNat
    (s.port.setup = none → exec (.takenIndexWrite value) s = .next s) ∧
    (∀ u, s.port.setup = some u →
      (u.slotCount < after → exec (.takenIndexWrite value) s = .next s) ∧
      (after ≤ u.slotCount → before ≤ after →
        exec (.takenIndexWrite value) s = .next { s with notices := { s.notices with taken := new } }) ∧
      (after ≤ u.slotCount → after < before → s.notices.backlog = [] →
        exec (.takenIndexWrite value) s = .next { s with notices := { s.notices with taken := new } }) ∧
      (after ≤ u.slotCount → after < before → s.NoticeLaw → ∃ t, exec (.takenIndexWrite value) s = .next t ∧
        t.notices.taken = new ∧ (t.notices.backlog = [] ∨ t.ringOccupancy = u.slotCount) ∧
        t.queues = s.queues ∧ t.joinSeq = s.joinSeq ∧ t.readyList = s.readyList ∧ t.store = s.store ∧
        t.treatment = s.treatment ∧ t.timeBase = s.timeBase ∧ t.frame = s.frame ∧ t.framesSent = s.framesSent ∧
        t.pending = s.pending ∧ t.loadReads = s.loadReads ∧
        t.port = { s.port with causes := { s.port.causes with notice := t.port.causes.notice } } ∧
        (∀ k, (s.call k).SameButNotices (t.call k)) ∧ (∀ a, (s.agent a).SameButMark (t.agent a)) ∧
        ∀ x, (∀ i : BitVec 16, i < t.notices.posted - s.notices.posted → ∀ j < 4,
          x ≠ u.ringBase + 16 * ((s.notices.posted + i).toNat % u.slotCount) + 4 * j) →
          t.hostWord x = s.hostWord x))

/-- Each bit written 1 to ICAUSE clears its cause, bits written 0 leave theirs, and the interrupt line is asserted
afterwards exactly when a cause that remains set is enabled (R182). -/
def Obligations.CauseClearDropsTheLine : Prop :=
  ∀ (value : Word) (s : State), ∃ t, exec (.causeClear value) s = .next t ∧
    t = { s with
      port := { s.port with
        causes :=
          { reply := s.port.causes.reply && !value.getLsbD 0
            notice := s.port.causes.notice && !value.getLsbD 1
            clock := s.port.causes.clock && !value.getLsbD 2 } } } ∧
    (t.interruptLine = true ↔
      (t.port.causes.reply = true ∧ s.port.enables.reply = true) ∨
      (t.port.causes.notice = true ∧ s.port.enables.notice = true) ∨
      (t.port.causes.clock = true ∧ s.port.enables.clock = true))

/-- While setup is absent every request but SETUP is refused NEED_SETUP and completed at once, whatever it asks, and
no record changes (R180). -/
def Obligations.RequestsNeedSetup : Prop :=
  ∀ (i : Instr) (b : Block) (s : State), i.block = some b → b.code ≠ 0x01 → b.length ≤ 64 →
    s.port.state = .FETCHING → s.port.setup = none →
    exec i s = .next { s with port := s.port.completed .REFUSED .NEED_SETUP }

/-- A request that ends in a reply echoes its block's code and tag with a class and reason that go together, and a
refused one has changed no record, but for the diverted counters of a C_ARRIVE or C_MOVE (R176, R178). That a refused
Q_LIST or S_LOAD has residual 0 is the model's choice (log entry 13). -/
def Obligations.RefusedRequestsChangeNoRecord : Prop :=
  ∀ (i : Instr) (b : Block) (s t : State) (r : Reply), i.block = some b → i.wellFormed = true → s.Taking →
    s.port.reply = none → exec i s = .next t → t.port.reply = some r →
    t.port.state = .REPLYING ∧ r.code = b.code ∧ r.tag = b.tag ∧
    (r.cls = .DONE ∧ r.reason = .NONE ∨ r.cls = .PARTIAL ∧ (r.reason = .CLAMPED ∨ r.reason = .TRUNCATED) ∨
      r.cls = .REFUSED ∧ r.reason ∉ [.NONE, .CLAMPED, .TRUNCATED, .BUS_FAULT] ∨
      r.cls = .FAULT ∧ r.reason = .BUS_FAULT) ∧
    (r.cls = .REFUSED →
      t = { s.replying .REFUSED r.reason b.code b.tag r.payload with queues := t.queues } ∧
      (∀ q, t.queue q =
        { s.queue q with counters := { (s.queue q).counters with diverted := (t.queue q).counters.diverted } }) ∧
      (b.code ≠ 0x20 → b.code ≠ 0x23 → t.queues = s.queues))

/-- SETUP: its tests in order, and what a SETUP that passes them stores: areas, count, enables, both indices 0, the
causes as they stood, with its reply going to the new area (R181). -/
def Obligations.SetupStoresItsWords : Prop :=
  ∀ (tag : Tag) (replyArea ringBase slotCount enables : Word) (s : State), s.port.state = .FETCHING →
    let area := replyArea.toNat % 4 = 0 ∧ replyArea.toNat + 1024 ≤ 4294967296
    let base := ringBase.toNat % 16 = 0
    let ring := (∃ n, 4 ≤ n ∧ n ≤ 12 ∧ slotCount.toNat = 2 ^ n) ∧
      ringBase.toNat + slotCount.toNat * 16 ≤ 4294967296
    let free := s.port.setup = none ∨ s.notices.posted = s.notices.taken
    (area → base → ring → free → exec (.setup tag replyArea ringBase slotCount enables) s = .next
      { s with
        port := ({ s.port with
          setup := some ⟨replyArea.toNat, ringBase.toNat, slotCount.toNat⟩
          enables := ⟨enables.getLsbD 0, enables.getLsbD 1, enables.getLsbD 2⟩ } : Port).replying
            .DONE .NONE 0x01 tag 0 [] []
        notices := { s.notices with posted := 0, taken := 0 } }) ∧
    (¬ (area ∧ base ∧ ring) → exec (.setup tag replyArea ringBase slotCount enables) s =
      .next (s.refusedAtPort .REFUSED .BAD_VALUE 0x01 tag)) ∧
    (area → base → ring → ¬ free → exec (.setup tag replyArea ringBase slotCount enables) s =
      .next (s.refusedAtPort .REFUSED .STATE 0x01 tag))

/-! ### Queues -/

/-- A Q_DEFINE that names a queue and words with codes and identifiers in range stores every parameter at its clamp,
keeps mode and counters, seeds the AHT at a first definition alone, names the clamped words in its mask, and leaves
every other queue as it stands (R12 to R14, R186, Table 1-6). -/
def Obligations.QDefineStoresClampedParameters : Prop :=
  ∀ (tag : Tag) (p : QDefineWords) (q : QueueId) (skill : Fin 64) (policy : AgentPolicy) (target : Option QueueId)
    (greeting : Option ClipId) (programme : Option ProgrammeId) (mode : AnnounceMode) (s : State), s.Taking →
    p.queue = word q.val → p.skill = word skill.val → 1 ≤ p.minLevel.toNat → p.minLevel.toNat ≤ 9 →
    policyOf p.policy = some policy → announceModeOf p.announceMode = some mode →
    p.overflowTarget = optWord (target.map (·.val)) → target ≠ some q →
    p.greeting = optWord (greeting.map (·.val)) → p.programme = optWord (programme.map (·.val)) →
    let params : QueueParams :=
      { skill := skill
        minLevel := p.minLevel.toNat
        capacity := min p.capacity.toNat 2048
        weight := max 1 (min p.weight.toNat 32)
        skillGain := min p.skillGain.toNat 255
        classBoost := min p.classBoost.toNat 600
        guard := if p.guard = 0 then 0 else max 10 (min p.guard.toNat 3600)
        policy := policy
        answerTimeout := max 5 (min p.answerTimeout.toNat 120)
        wrapBase := min p.wrapBase.toNat 900
        wrapExtensionMax := min p.wrapExtensionMax.toNat 1800
        overflowTarget := target
        overflowAfter := if p.overflowAfter = 0 then 0 else max 5 (min p.overflowAfter.toNat 3600)
        carryWait := p.carryWait != 0
        serviceTarget := max 1 (min p.serviceTarget.toNat 600)
        serviceGoal := min p.serviceGoal.toNat 1000
        shortAbandon := min p.shortAbandon.toNat 60
        greeting := greeting
        programme := programme
        announceMode := mode
        announceInterval := if p.announceInterval = 0 then 0 else max 20 (min p.announceInterval.toNat 600) }
    let initial := max 1 (min p.initialAht.toNat 3600)
    let clamped : List (Nat × Bool) :=
      [(4, p.capacity.toNat != params.capacity), (5, p.weight.toNat != params.weight),
        (6, p.skillGain.toNat != params.skillGain), (7, p.classBoost.toNat != params.classBoost),
        (8, p.guard.toNat != params.guard), (10, p.answerTimeout.toNat != params.answerTimeout),
        (11, p.wrapBase.toNat != params.wrapBase), (12, p.wrapExtensionMax.toNat != params.wrapExtensionMax),
        (14, p.overflowAfter.toNat != params.overflowAfter), (16, p.serviceTarget.toNat != params.serviceTarget),
        (17, p.serviceGoal.toNat != params.serviceGoal), (18, p.shortAbandon.toNat != params.shortAbandon),
        (22, p.announceInterval.toNat != params.announceInterval),
        (23, !(s.queue q).defined && p.initialAht.toNat != initial)]
    ∃ t, ∃ mask : Word, exec (.qDefine tag p) s = .next t ∧
      t.queue q =
        { defined := true, mode := (s.queue q).mode, params := params
          aht := if (s.queue q).defined then (s.queue q).aht else 16 * initial
          counters := (s.queue q).counters, waiting := (t.queue q).waiting } ∧
      (∀ r, r ≠ q → t.queue r = s.queue r) ∧
      t.Replies (clampClass (mask != 0)) (clampReason (mask != 0)) 0x10 tag [mask] ∧
      (∀ i, i < 32 → mask.getLsbD i = decide ((i, true) ∈ clamped)) ∧
      t.joinSeq = s.joinSeq ∧ t.treatment = s.treatment ∧ s.SameLibrary t

/-- What a Q_DEFINE does to the calls of its queue: the list re-sorted under a changed class boost, music retuned under
a changed programme with the AUDIO mark of each call whose channel changes, in the order of the list and then of the
OFFERED calls, the announcement schedule adjusted by Table 1-8, overflow spent cleared under a changed target or time;
and then, when the mode includes DISTRIBUTE, head calls offered, each to the agent that stands first under the policy,
until the list is empty or no READY agent qualifies (R15 to R19, R67, R68). That the marks follow the list as re-sorted
is the model's choice (log entry 26). -/
def Obligations.QDefineTreatsItsCalls : Prop :=
  ∀ (tag : Tag) (p : QDefineWords) (q : QueueId) (d : QDefinition) (s : State), s.Taking → s.RecordsAgree →
    p.queue = word q.val → qDefineOf q (s.queue q).defined p = some d →
    let old := (s.queue q).params
    let new := d.params
    let on := fun r : QueueParams => r.announceMode ≠ .NONE ∧ r.announceInterval ≠ 0
    let member := fun k => ((s.call k).state = .QUEUED ∨ (s.call k).state = .OFFERED) ∧ (s.call k).queue = q
    let retuned := fun k => old.programme ≠ new.programme ∧
      ((s.call k).audio = .MUSIC ∨ ((s.call k).audio = .SILENT ∧ new.programme ≠ none))
    let offered := (List.finRange 2048).filter fun k => (s.call k).state == .OFFERED && (s.call k).queue == q
    ∃ (t : State) (sorted : List CallId) (n : Nat), exec (.qDefine tag p) s = .next t ∧
      sorted.Perm (s.queue q).waiting ∧
      (old.classBoost = new.classBoost → sorted = (s.queue q).waiting) ∧
      (old.classBoost ≠ new.classBoost →
        sorted.Pairwise fun a b => notAfter new.classBoost (s.call a) (s.call b) = true) ∧
      (t.queue q).waiting = sorted.drop n ∧ n ≤ sorted.length ∧
      (∃ agents : List AgentId, agents.length = n ∧ s.SweepTakes (t.queue q) agents ∧
        t.readyList = s.readyList.filter (fun a => decide (a ∉ agents)) ∧
        ∀ (i : Nat) (k : CallId) (a : AgentId), sorted[i]? = some k → agents[i]? = some a → (t.call k).agent = some a) ∧
      ((s.queue q).mode.distribute = false →
        n = 0 ∧ t.readyList = s.readyList ∧ ∀ a, (s.agent a).SameButMark (t.agent a)) ∧
      ((s.queue q).mode.distribute = true →
        (t.queue q).waiting = [] ∨ ∀ a ∈ t.readyList, (t.agent a).qualifies (t.queue q) = false) ∧
      (∀ a, (s.agent a).state ≠ .READY → (s.agent a).SameButMark (t.agent a)) ∧
      (∀ k, ¬ member k → (s.call k).SameButNotices (t.call k)) ∧
      (∀ k, member k →
        ∃ audio channel next spent state agent since,
          ({ s.call k with
            audio := audio, channel := channel, nextAnnouncement := next, overflowSpent := spent, state := state
            agent := agent, savedReadySince := since } : Call).SameButNotices (t.call k) ∧
          (k ∉ sorted.take n →
            state = (s.call k).state ∧ agent = (s.call k).agent ∧ since = (s.call k).savedReadySince) ∧
          (k ∈ sorted.take n → state = .OFFERED ∧ ∃ a ∈ s.readyList, agent = some a ∧
            since = some (s.agent a).readySince ∧ (t.agent a).state = .OFFERED ∧
            (t.agent a).call = some (s.handle k)) ∧
          (¬ retuned k → audio = (s.call k).audio ∧ channel = (s.call k).channel) ∧
          (retuned k →
            (∀ pr, new.programme = some pr → audio = .MUSIC ∧ channel = some pr.val) ∧
            (new.programme = none → audio = .SILENT ∧ channel = none)) ∧
          (on old → ¬ on new → next = none) ∧
          (¬ on old → on new → (s.call k).nextAnnouncement = none →
            ((s.call k).audio = .MUSIC ∨ (s.call k).audio = .SILENT) →
            next = some (s.inSeconds new.announceInterval)) ∧
          (¬ on old → on new → ((s.call k).nextAnnouncement ≠ none ∨ (s.call k).audio = .GREETING ∨
            (s.call k).audio = .ANNOUNCE) → next = (s.call k).nextAnnouncement) ∧
          ((on old ↔ on new) → next = (s.call k).nextAnnouncement) ∧
          ((s.call k).state = .QUEUED → (old.overflowTarget ≠ new.overflowTarget ∨
            old.overflowAfter ≠ new.overflowAfter) → spent = false) ∧
          ((s.call k).state = .OFFERED ∨ (old.overflowTarget = new.overflowTarget ∧
            old.overflowAfter = new.overflowAfter) → spent = (s.call k).overflowSpent)) ∧
      (let marked := (sorted ++ offered).filter fun k =>
          decide (retuned k) && decide (RecordRef.call k ∉ s.notices.backlog);
        (s.ringRoom = 0 →
          (∀ k, member k → retuned k → (t.call k).marks.audio = true) ∧
          ∃ later, t.notices.backlog = s.notices.backlog ++ marked.map RecordRef.call ++ later ∧
            (n = 0 → later = [])) ∧
        (s.NoticeLaw → n = 0 → s.notices.backlog = [] → marked.length ≤ s.ringRoom →
          t.notices.backlog = [] ∧ t.notices.posted = s.notices.posted + BitVec.ofNat 16 marked.length))

/-- Q_MODE writes the mode and answers the previous one. A change that gains no DISTRIBUTE touches nothing else; one
that gains it sweeps: head calls are offered, each to the agent that stands first under the policy, until the list is
empty or no READY agent qualifies (R6, R67, R68). -/
def Obligations.QModeWritesAndSweeps : Prop :=
  ∀ (tag : Tag) (q : QueueId) (m : QMode) (s : State), s.Taking → s.NoticeLaw → (s.queue q).defined = true →
    let gains := ((s.queue q).mode = .SHUT ∨ (s.queue q).mode = .STAGING) ∧ (m = .OPEN ∨ m = .DRAINING)
    (¬ gains → exec (.qMode tag (word q.val) (word m.code)) s = .next
      { s.replying .DONE .NONE 0x11 tag [word (s.queue q).mode.code] with
        queues := s.queues.set q.val { s.queue q with mode := m } }) ∧
    (gains → ∃ t n, exec (.qMode tag (word q.val) (word m.code)) s = .next t ∧
      t.Replies .DONE .NONE 0x11 tag [word (s.queue q).mode.code] ∧
      t.queue q = { s.queue q with mode := m, waiting := (s.queue q).waiting.drop n } ∧
      n ≤ (s.queue q).waiting.length ∧ (∀ r, r ≠ q → t.queue r = s.queue r) ∧
      (s.RecordsAgree → ∃ agents : List AgentId, agents.length = n ∧ s.SweepTakes (s.queue q) agents ∧
        t.readyList = s.readyList.filter (fun a => decide (a ∉ agents)) ∧
        ∀ (i : Nat) (k : CallId) (a : AgentId), (s.queue q).waiting[i]? = some k → agents[i]? = some a →
          (t.call k).state = .OFFERED ∧ (t.call k).agent = some a ∧
          (t.call k).savedReadySince = some (s.agent a).readySince ∧
          ({ s.agent a with state := .OFFERED, call := some (s.handle k), stateEntry := s.now } :
            Agent).SameButMark (t.agent a)) ∧
      ((t.queue q).waiting = [] ∨ ∀ a ∈ t.readyList, (t.agent a).qualifies (t.queue q) = false) ∧
      (s.RecordsAgree → ∀ k ∈ (s.queue q).waiting.take n, (t.call k).state = .OFFERED) ∧
      (s.RecordsAgree → ∀ k ∉ (s.queue q).waiting.take n, (s.call k).SameButNotices (t.call k)) ∧
      (s.RecordsAgree → ∀ a, (s.agent a).state ≠ .READY → (s.agent a).SameButMark (t.agent a)) ∧
      t.joinSeq = s.joinSeq ∧ t.treatment = s.treatment ∧ s.SameLibrary t)

/-- Q_QUERY changes nothing and returns the figures of Table 6-9, each from the records as they stand (R113, R114,
R118, R119, R121). That head starving and the lift flag are the words 1 and 0 is the model's choice (log entry 13). -/
def Obligations.QQueryReturnsTheFigures : Prop :=
  ∀ (tag : Tag) (q : QueueId) (s : State), s.Taking → (s.queue q).defined = true →
    let r := s.queue q
    let d := r.counters.answered + r.counters.abandoned - r.counters.abandonedShort
    let sl := if d = 0 then 1000 else 1000 * r.counters.answeredInTarget / d
    let lift := 20 ≤ d ∧ sl < r.params.serviceGoal
    let head := match r.waiting with
      | [] => 0
      | k :: _ => min (s.now - (s.call k).entry) 65535
    let starving := r.waiting ≠ [] ∧ r.params.guard ≠ 0 ∧ r.params.guard ≤ head
    let staffed := max 1 (s.agents.toList.countP fun g =>
      (g.state == .READY || g.state == .OFFERED || g.state == .TALKING || g.state == .WRAP) && g.qualifies r)
    exec (.qQuery tag (word q.val)) s = .next
      (s.replying .DONE .NONE 0x12 tag
        [word r.mode.code, word r.waiting.length,
          word (s.calls.toList.countP fun c => c.state == .OFFERED && c.queue == q), word head,
          if starving then 1 else 0, word sl, word (min d 4294967295), if lift then 1 else 0, word r.aht,
          word staffed, word (((r.waiting.length + 1) * r.aht + 16 * staffed - 1) / (16 * staffed))])

/-- Q_LIST changes nothing and walks the waiting list from its start position, ending at its maximum, at the list's
end, or at the first entry below its minimum wait, with its counts clamped (R43, Table 10-4). -/
def Obligations.QListWalksFromItsStart : Prop :=
  ∀ (tag : Tag) (q : QueueId) (start maximum minWait : Word) (s : State), s.Taking → (s.queue q).defined = true →
    let first := max 1 start.toNat
    let most := max 1 (min maximum.toNat 64)
    let least := min minWait.toNat 65535
    let clamped := start.toNat ≠ first ∨ maximum.toNat ≠ most ∨ minWait.toNat ≠ least
    let wait := fun k => min (s.now - (s.call k).entry) 65535
    let behind := (s.queue q).waiting.drop (first - 1)
    ∃ l : List CallId, exec (.qList tag (word q.val) start maximum minWait) s = .next
      { s with
        port := s.port.replying (clampClass (decide clamped)) (clampReason (decide clamped)) 0x13 tag
          (most - l.length) [word (s.queue q).waiting.length, word l.length]
          (l.flatMap fun k =>
            [(s.handle k).word, (s.call k).callerTag, word (wait k + 65536 * (s.call k).cls)]) } ∧
      l <+: behind ∧ l.length ≤ most ∧ (∀ k ∈ l, least ≤ wait k) ∧
      (l.length = most ∨ l = behind ∨ ∃ k, behind[l.length]? = some k ∧ wait k < least)

/-- R110, R111: Q_COUNTERS returns the twelve counters and the calls present, taken before any clear; a clear sets
entered to the calls present and the eleven others to 0; nothing else changes. Outside 0..63 it is refused BAD_VALUE,
for a queue not defined BAD_QUEUE, changing nothing. -/
def Obligations.QCountersReturnsAndClears : Prop :=
  ∀ (tag : Tag) (queue clear : Word) (s : State), s.Taking →
    (64 ≤ queue.toNat → exec (.qCounters tag queue clear) s =
      .next (s.replying .REFUSED .BAD_VALUE 0x14 tag [])) ∧
    (∀ q : QueueId, queue = word q.val →
      let c := (s.queue q).counters
      let present := (s.queue q).waiting.length +
        s.calls.toList.countP fun c => c.state == .OFFERED && c.queue == q
      ((s.queue q).defined = false → exec (.qCounters tag queue clear) s =
        .next (s.replying .REFUSED .BAD_QUEUE 0x14 tag [])) ∧
      ((s.queue q).defined = true → exec (.qCounters tag queue clear) s = .next
        { s.replying .DONE .NONE 0x14 tag
            [word c.entered, word c.answered, word c.answeredInTarget, word c.abandoned, word c.abandonedShort,
              word c.movedOut, word c.overflowOut, word c.diverted, word c.answerWaitTotal, word c.handled,
              word c.talkTotal, word c.wrapTotal, word present] with
          queues := if clear = 0 then s.queues else
            s.queues.set q.val { s.queue q with counters := ⟨present, 0, 0, 0, 0, 0, 0, 0, 0, 0, 0, 0⟩ } }))

/-- Identifiers out of range, undefined queues and stale handles are refused, and so are skill lists that are not valid,
stations above 65,535, away reasons above 14, and codes, levels and optional identifiers out of range; each changes
nothing (section 2.2 of spec 00, R6, R8, R12, R21, R34, R43, R46, R47, R52, R54, R56, R60, R62, R80). That Q_MODE tests
its mode before it finds its queue undefined is the model's choice (log entry 25), and so are the items of a refused
A_SET and the residual 0 of a refused Q_LIST (log entry 13). -/
def Obligations.IdentifiersAreRefusedNotClamped : Prop :=
  ∀ (tag : Tag) (w x y z : Word) (l : List Word) (p : QDefineWords) (s : State), s.Taking → l.length ≤ 58 →
    (64 ≤ w.toNat →
      exec (.qDefine tag { p with queue := w }) s = .next (s.replying .REFUSED .BAD_VALUE 0x10 tag []) ∧
      exec (.qMode tag w x) s = .next (s.replying .REFUSED .BAD_VALUE 0x11 tag []) ∧
      exec (.qQuery tag w) s = .next (s.replying .REFUSED .BAD_VALUE 0x12 tag []) ∧
      exec (.qList tag w x y z) s = .next (s.replying .REFUSED .BAD_VALUE 0x13 tag []) ∧
      exec (.cArrive tag x w y) s = .next (s.replying .REFUSED .BAD_VALUE 0x20 tag [])) ∧
    (∀ q : QueueId, w = word q.val → (s.queue q).defined = false →
      (x.toNat ≤ 3 → exec (.qMode tag w x) s = .next (s.replying .REFUSED .BAD_QUEUE 0x11 tag [])) ∧
      exec (.qQuery tag w) s = .next (s.replying .REFUSED .BAD_QUEUE 0x12 tag []) ∧
      exec (.qList tag w x y z) s = .next (s.replying .REFUSED .BAD_QUEUE 0x13 tag []) ∧
      exec (.cArrive tag x w y) s = .next (s.replying .REFUSED .BAD_QUEUE 0x20 tag [])) ∧
    (3 < x.toNat → exec (.qMode tag w x) s = .next (s.replying .REFUSED .BAD_VALUE 0x11 tag [])) ∧
    (1024 ≤ w.toNat →
      exec (.aLogin tag w x y z l) s = .next (s.replying .REFUSED .BAD_VALUE 0x30 tag []) ∧
      exec (.aLogout tag w) s = .next (s.replying .REFUSED .BAD_VALUE 0x31 tag []) ∧
      exec (.aSet tag w x y z) s = .next (s.replying .REFUSED .BAD_VALUE 0x32 tag []) ∧
      exec (.aSkills tag w l) s = .next (s.replying .REFUSED .BAD_VALUE 0x33 tag []) ∧
      exec (.aQuery tag w) s = .next (s.replying .REFUSED .BAD_VALUE 0x34 tag []) ∧
      exec (.aCounters tag w x) s = .next (s.replying .REFUSED .BAD_VALUE 0x35 tag []) ∧
      exec (.wExtend tag w x) s = .next (s.replying .REFUSED .BAD_VALUE 0x38 tag []) ∧
      exec (.wEnd tag w) s = .next (s.replying .REFUSED .BAD_VALUE 0x39 tag [])) ∧
    (∀ k : CallId, k.val = w.toNat / 32 % 2048 →
      ((s.call k).state = .FREE ∨ (s.call k).gen.val ≠ w.toNat % 32) →
      exec (.cAnswer tag w x) s = .next (s.replying .REFUSED .STALE 0x21 tag []) ∧
      exec (.cEnd tag w) s = .next (s.replying .REFUSED .STALE 0x22 tag []) ∧
      exec (.cMove tag w x) s = .next (s.replying .REFUSED .STALE 0x23 tag []) ∧
      exec (.cClass tag w x) s = .next (s.replying .REFUSED .STALE 0x24 tag []) ∧
      exec (.cQuery tag w) s = .next (s.replying .REFUSED .STALE 0x25 tag [])) ∧
    (∀ k : CallId, (s.call k).state ≠ .FREE →
      (1024 ≤ x.toNat → exec (.cAnswer tag (s.handle k).word x) s =
        .next (s.replying .REFUSED .BAD_VALUE 0x21 tag [])) ∧
      (64 ≤ x.toNat → exec (.cMove tag (s.handle k).word x) s =
        .next (s.replying .REFUSED .BAD_VALUE 0x23 tag []))) ∧
    (let badList := 8 < l.length ∨
        (∃ e ∈ l, 64 ≤ (e.extractLsb' 8 8).toNat ∨ (e.extractLsb' 0 8).toNat = 0 ∨ 9 < (e.extractLsb' 0 8).toNat) ∨
        ¬ (l.map fun e => e.extractLsb' 8 8).Nodup
      let badState := fun target reason : Word => 2 ≤ target.toNat ∨ (target = 1 ∧ 15 ≤ reason.toNat)
      (badList ∨ 65535 < x.toNat ∨ badState y z →
        exec (.aLogin tag w x y z l) s = .next (s.replying .REFUSED .BAD_VALUE 0x30 tag [])) ∧
      (badList → exec (.aSkills tag w l) s = .next (s.replying .REFUSED .BAD_VALUE 0x33 tag [])) ∧
      (∀ a : AgentId, w = word a.val → badState x y → exec (.aSet tag w x y z) s = .next
        (s.replying .REFUSED .BAD_VALUE 0x32 tag
          [word (s.agent a).state.code, word (s.agent a).state.code,
            match (s.agent a).pending with
              | .NONE => 0
              | .AWAY r => word (1 + 256 * r.val)
              | .LOGOUT => 2]))) ∧
    (64 ≤ p.skill.toNat ∨ p.minLevel = 0 ∨ 9 < p.minLevel.toNat ∨ 3 ≤ p.policy.toNat ∨ 4 ≤ p.announceMode.toNat ∨
      (p.overflowTarget ≠ 0xFFFFFFFF ∧ 64 ≤ p.overflowTarget.toNat) ∨ p.overflowTarget = p.queue ∨
      (p.greeting ≠ 0xFFFFFFFF ∧ 256 ≤ p.greeting.toNat) ∨
      (p.programme ≠ 0xFFFFFFFF ∧ 16 ≤ p.programme.toNat) →
      exec (.qDefine tag p) s = .next (s.replying .REFUSED .BAD_VALUE 0x10 tag []))

/-! ### Calls -/

/-- C_ARRIVE follows the overflow chain to the first accepting queue, counting the refusals on the way; with nothing to
offer there, the call waits in it in the lowest FREE slot, treated: the pool player of its greeting taken, and its AUDIO
mark set when a channel is assigned (R9, R11, R26 to R29, R149, R151). A chain that ends without an accepting queue is
DIVERTED and makes no call; without a FREE slot no walk is made (R28). -/
def Obligations.CArriveFollowsTheChain : Prop :=
  ∀ (tag : Tag) (callerTag cls : Word) (q : QueueId) (s : State), s.Taking → (s.queue q).defined = true →
    (∀ (k : CallId) (path : List QueueId) (accepting : QueueId), (s.call k).state = .FREE →
      (∀ k' < k, (s.call k').state ≠ .FREE) → s.WalksTo none q path accepting → s.NoOffer accepting →
      ∃ t, exec (.cArrive tag callerTag (word q.val) cls) s = .next t ∧
        t.Replies (clampClass (decide (3 < cls.toNat))) (clampReason (decide (3 < cls.toNat))) 0x20 tag
          [(s.handle k).word, word accepting.val, 1] ∧
        (∃ c : Call, s.Treated accepting (fun p => (s.pool p).state = .IDLE) c ∧
          ({ Call.free (s.call k).gen with
            state := .QUEUED, callerTag := callerTag, queue := accepting, arrival := s.now, entry := s.now
            cls := min cls.toNat 3, joinSeq := s.joinSeq, audio := c.audio, channel := c.channel
            poolPlayer := c.poolPlayer, nextAnnouncement := c.nextAnnouncement } : Call).SameButNotices (t.call k)) ∧
        s.PoolTaken t accepting k none ∧ ((t.call k).channel ≠ none → s.AudioReported t k) ∧
        (s.notices.backlog = [] → (t.call k).channel = none → t.notices = s.notices ∧ t.bus = s.bus) ∧
        (s.notices.backlog = [] → (t.call k).channel ≠ none → 0 < s.ringRoom →
          t.notices.posted = s.notices.posted + 1 ∧ t.notices.backlog = [] ∧ (t.call k).marks.audio = false) ∧
        t.joinSeq = min (s.joinSeq + 1) 4294967295 ∧
        t.queue accepting =
          { s.queue accepting with
            counters := { (s.queue accepting).counters with
              entered := min ((s.queue accepting).counters.entered + 1) 4294967295 }
            waiting := (t.queue accepting).waiting } ∧
        (t.queue accepting).waiting.Perm (k :: (s.queue accepting).waiting) ∧
        (∀ r, r ≠ accepting → t.queue r = if r ∈ path then (s.queue r).divertedOnce else s.queue r) ∧
        (∀ k', k' ≠ k → (s.call k').SameButNotices (t.call k')) ∧ t.readyList = s.readyList ∧
        (∀ a, (s.agent a).SameButMark (t.agent a)) ∧ s.SameLibrary t) ∧
    (∀ (k : CallId) (path : List QueueId) (last : QueueId), (s.call k).state = .FREE →
      s.WalkEndsAt none q path last →
      ∃ t, exec (.cArrive tag callerTag (word q.val) cls) s = .next t ∧
        t = { s.replying .REFUSED .DIVERTED 0x20 tag [] with queues := t.queues } ∧
        ∀ r, t.queue r = if r ∈ path ++ [last] then (s.queue r).divertedOnce else s.queue r) ∧
    ((∀ k, (s.call k).state ≠ .FREE) →
      exec (.cArrive tag callerTag (word q.val) cls) s = .next (s.replying .REFUSED .TABLE_FULL 0x20 tag []))

/-- A C_ARRIVE whose queue distributes, with an empty list and an agent for it, offers the call at once: both become
OFFERED, the agent leaves the ready list, no treatment begins, and the offer timer starts with the posting of the OFFER
when the ring has room and nothing waits before it, and waits with the mark otherwise (R29, R75 to R78, R193). -/
def Obligations.CArriveOffersToAReadyAgent : Prop :=
  ∀ (tag : Tag) (callerTag cls : Word) (q : QueueId) (k : CallId) (a : AgentId) (s : State), s.Taking →
    s.NoticeLaw → s.ringFaults = [] → s.Admits q → (s.queue q).mode = .OPEN → (s.queue q).waiting = [] →
    (s.call k).state = .FREE → (∀ k' < k, (s.call k').state ≠ .FREE) → s.chooseAgent q = some a →
    ∃ t, exec (.cArrive tag callerTag (word q.val) cls) s = .next t ∧
      t.Replies (clampClass (decide (3 < cls.toNat))) (clampReason (decide (3 < cls.toNat))) 0x20 tag
        [(s.handle k).word, word q.val, 2] ∧
      ({ Call.free (s.call k).gen with
        state := .OFFERED, callerTag := callerTag, queue := q, arrival := s.now, entry := s.now
        cls := min cls.toNat 3, joinSeq := s.joinSeq, agent := some a
        savedReadySince := some (s.agent a).readySince } : Call).SameButNotices (t.call k) ∧
      ({ s.agent a with state := .OFFERED, call := some (s.handle k), stateEntry := s.now } :
        Agent).SameButMark (t.agent a) ∧
      t.readyList = s.readyList.erase a ∧
      t.queue q =
        { s.queue q with
          counters := { (s.queue q).counters with entered := min ((s.queue q).counters.entered + 1) 4294967295 } } ∧
      (∀ r, r ≠ q → t.queue r = s.queue r) ∧ (∀ k', k' ≠ k → (s.call k').SameButNotices (t.call k')) ∧
      (∀ b, b ≠ a → (s.agent b).SameButMark (t.agent b)) ∧ t.treatment = s.treatment ∧ s.SameLibrary t ∧
      (s.notices.backlog = [] → 0 < s.ringRoom →
        (t.call k).offerPosted = true ∧
        (t.call k).offerDeadline = some (s.inSeconds (s.queue q).params.answerTimeout) ∧
        t.notices.posted = s.notices.posted + 1 ∧ t.notices.backlog = [] ∧ t.port.causes.notice = true ∧
        t.bus.length = s.bus.length + 4) ∧
      (s.ringRoom = 0 → (t.call k).offerPosted = false ∧ (t.call k).offerDeadline = none ∧
        (t.call k).marks.offer = true ∧ RecordRef.call k ∈ t.notices.backlog ∧ t.bus = s.bus)

/-- C_ANSWER connects a call OFFERED to the named agent, releasing its player, dropping its OFFER and AUDIO marks and
counting the answer; a call in any other state, or OFFERED to another agent, is refused TOO_LATE (R80 to R82). That
within target or not is the word 1 or 0 is the model's choice (log entry 13). The position, silent-clip flag and held
group of a released player are the model's choice (log entry 11). -/
def Obligations.CAnswerConnectsTheOfferedCall : Prop :=
  ∀ (tag : Tag) (k : CallId) (a : AgentId) (s : State), s.Taking → (s.call k).state ≠ .FREE →
    let c := s.call k
    let r := s.queue c.queue
    let wait := min (s.now - c.entry) 65535
    let inTarget := wait ≤ r.params.serviceTarget
    ((c.state = .OFFERED ∧ c.agent = some a) →
      ∃ t, exec (.cAnswer tag (s.handle k).word (word a.val)) s = .next t ∧
        t.Replies .DONE .NONE 0x21 tag [word c.queue.val, word wait, if inTarget then 1 else 0] ∧
        t.call k =
          { c with
            state := .CONNECTED, talkStart := some s.now, savedReadySince := none, offerDeadline := none
            offerPosted := false, overflowDue := false, poolPlayer := none, audio := .SILENT, channel := none
            nextAnnouncement := none, marks := { c.marks with offer := false, audio := false } } ∧
        t.agent a = { s.agent a with state := .TALKING, stateEntry := s.now } ∧
        t.queue c.queue =
          { r with
            counters := { r.counters with
              answered := min (r.counters.answered + 1) 4294967295
              answeredInTarget := if inTarget then min (r.counters.answeredInTarget + 1) 4294967295
                else r.counters.answeredInTarget
              answerWaitTotal := if inTarget then min (r.counters.answerWaitTotal + wait) 4294967295
                else r.counters.answerWaitTotal } } ∧
        (∀ q, q ≠ c.queue → t.queue q = s.queue q) ∧ (∀ k', k' ≠ k → t.call k' = s.call k') ∧
        (∀ b, b ≠ a → t.agent b = s.agent b) ∧
        (∀ p, t.pool p = if c.poolPlayer = some p then .idle else s.pool p) ∧
        t.notices =
          { s.notices with
            backlog := if c.marks.moved || c.marks.withdraw then s.notices.backlog
              else s.notices.backlog.erase (.call k) } ∧
        t.joinSeq = s.joinSeq ∧ t.readyList = s.readyList ∧ t.bus = s.bus ∧ s.SameLibrary t) ∧
    (¬ (c.state = .OFFERED ∧ c.agent = some a) →
      exec (.cAnswer tag (s.handle k).word (word a.val)) s = .next (s.replying .REFUSED .TOO_LATE 0x21 tag []))

/-- C_END by the state of the call: an abandonment of a QUEUED call; an abandonment during an offer, whose agent returns
to READY with its saved ready-since; a completion, whose agent enters WRAP, and leaves it at once, with its AGENT mark
set, when the answering queue has no wrap base. The slot is freed with its generation advanced in each (R30 to R33, R88,
R92, R95, R102). The order of the reply's words is the model's choice (log entry 13). The position, silent-clip flag and
held group of a released player are the model's choice (log entry 11). -/
def Obligations.CEndFreesTheSlot : Prop :=
  ∀ (tag : Tag) (k : CallId) (s : State), s.Taking → s.RecordsAgree →
    let c := s.call k
    let r := s.queue c.queue
    let wait := min (s.now - c.entry) 65535
    let abandoned : Queue :=
      { r with
        counters := { r.counters with
          abandoned := min (r.counters.abandoned + 1) 4294967295
          abandonedShort := if wait < r.params.shortAbandon then min (r.counters.abandonedShort + 1) 4294967295
            else r.counters.abandonedShort } }
    let freed := Call.free (c.gen + 1)
    (c.state = .QUEUED → ∃ t, exec (.cEnd tag (s.handle k).word) s = .next t ∧
      t.Replies .DONE .NONE 0x22 tag [1, word wait] ∧ t.call k = freed ∧
      t.queue c.queue = { abandoned with waiting := r.waiting.erase k } ∧
      (∀ q, q ≠ c.queue → t.queue q = s.queue q) ∧ (∀ k', k' ≠ k → t.call k' = s.call k') ∧
      (∀ p, t.pool p = if c.poolPlayer = some p then .idle else s.pool p) ∧ t.agents = s.agents ∧
      t.readyList = s.readyList ∧ t.notices = { s.notices with backlog := s.notices.backlog.erase (.call k) } ∧
      t.joinSeq = s.joinSeq ∧ t.bus = s.bus ∧ s.SameLibrary t) ∧
    (∀ a, c.state = .OFFERED → c.agent = some a →
      ∃ t, exec (.cEnd tag (s.handle k).word) s = .next t ∧
        t.Replies .DONE .NONE 0x22 tag [2, word wait, word a.val] ∧ t.call k = freed ∧
        (t.queue c.queue).counters = abandoned.counters ∧ (t.queue c.queue).params = r.params ∧
        (t.agent a).readySince = c.savedReadySince.getD (s.agent a).readySince ∧
        (t.agent a).stateEntry = s.now ∧
        ((t.agent a).state = .READY ∧ a ∈ t.readyList ∨ (t.agent a).state = .OFFERED) ∧
        (s.candidates a = [] →
          ({ s.agent a with
            state := .READY, call := none, readySince := c.savedReadySince.getD (s.agent a).readySince
            awayReason := 0, stateEntry := s.now } : Agent).SameButMark (t.agent a) ∧
          t.readyList.Perm (a :: s.readyList) ∧ t.queue c.queue = abandoned ∧
          (∀ q, q ≠ c.queue → t.queue q = s.queue q) ∧
          (∀ k', k' ≠ k → (s.call k').SameButNotices (t.call k'))) ∧
        (∀ b, b ≠ a → (s.agent b).SameButMark (t.agent b)) ∧
        (∀ p, t.pool p = if c.poolPlayer = some p then .idle else s.pool p) ∧
        t.joinSeq = s.joinSeq ∧ s.SameLibrary t) ∧
    (∀ a start, c.state = .CONNECTED → c.agent = some a → c.talkStart = some start →
      ∃ t, exec (.cEnd tag (s.handle k).word) s = .next t ∧
        t.Replies .DONE .NONE 0x22 tag [3, word a.val, word (s.now - start)] ∧ t.call k = freed ∧
        (r.params.wrapBase ≠ 0 →
          ({ s.agent a with
            state := .WRAP, call := none, stateEntry := s.now, wrapQueue := c.queue, wrapTalk := s.now - start
            wrapStart := s.now, wrapDeadline := s.inSeconds r.params.wrapBase
            wrapLimit := min (s.now + r.params.wrapBase + r.params.wrapExtensionMax) 4294967295 } :
              Agent).SameButMark (t.agent a) ∧
          t.queues = s.queues ∧ t.readyList = s.readyList ∧
          (∀ k', k' ≠ k → (s.call k').SameButNotices (t.call k')) ∧
          (∀ b, b ≠ a → (s.agent b).SameButMark (t.agent b))) ∧
        (r.params.wrapBase = 0 →
          s.WrapEnds t a c.queue (s.now - start) 0 (s.agent a).pending ∧ s.AgentReported t a) ∧
        t.joinSeq = s.joinSeq ∧ s.SameLibrary t)

/-- C_MOVE walks from the queue named, along the overflow targets, to the first accepting queue, counting the refusals
on the way and skipping the own queue of a QUEUED call. A QUEUED call leaves its list and is counted out; a CONNECTED
call is queued again and its agent enters WRAP for the queue the call was answered from, or ends the wrap at once, its
AGENT mark set, when that queue has no wrap base. The call takes a new entry time, join sequence and move count, and new
treatment, with its greeting's pool player and its AUDIO mark (R149, R151). An OFFERED call, the call's own queue, an
undefined queue and a walk that ends without an accepting queue are refused (R9 to R11, R27, R34 to R36, R93, R95, R101,
R102). That the reply gives the call's state before the selection of a wrap that ends in the request, and carries no
talk seconds, is the model's choice (log entry 13). The position, silent-clip flag and held group of a released player
are the model's choice (log entry 11). -/
def Obligations.CMoveQueuesTheCallAgain : Prop :=
  ∀ (tag : Tag) (k : CallId) (q : QueueId) (path : List QueueId) (accepting : QueueId) (s : State), s.Taking →
    s.RecordsAgree → (s.call k).state ≠ .FREE →
    let c := s.call k
    let r := s.queue c.queue
    let own := if c.state = .QUEUED then some c.queue else none
    let entry := if (s.queue accepting).params.carryWait then c.arrival else s.now
    let moved : Call :=
      { c with
        state := .QUEUED, queue := accepting, entry := entry, joinSeq := s.joinSeq
        moveCount := min (c.moveCount + 1) 4, overflowSpent := false, overflowDue := false }
    let asked := exec (.cMove tag (s.handle k).word (word q.val)) s
    (c.state = .QUEUED → q ≠ c.queue → (s.queue q).defined = true → s.WalksTo own q path accepting →
      ∃ t, asked = .next t ∧
      ((t.call k).state = .QUEUED ∨ (t.call k).state = .OFFERED) ∧
      t.Replies .DONE .NONE 0x23 tag [word accepting.val, word (t.call k).state.code] ∧
      (t.call k).queue = accepting ∧ (t.call k).entry = entry ∧ (t.call k).joinSeq = s.joinSeq ∧
      (t.call k).moveCount = moved.moveCount ∧ (t.call k).overflowSpent = false ∧ (t.call k).gen = c.gen ∧
      (t.call k).arrival = c.arrival ∧ (t.call k).cls = c.cls ∧ (t.call k).callerTag = c.callerTag ∧
      t.queue accepting = { (s.queue accepting).enteredOnce with waiting := (t.queue accepting).waiting } ∧
      t.queue c.queue =
        { r with
          counters := { r.counters with movedOut := min (r.counters.movedOut + 1) 4294967295 }
          waiting := r.waiting.erase k } ∧
      (∀ x, x ≠ accepting → x ≠ c.queue → t.queue x = s.passed own path x) ∧
      t.joinSeq = min (s.joinSeq + 1) 4294967295 ∧ s.SameLibrary t ∧
      (s.ringRoom = 0 → c.channel ≠ none → (t.call k).marks.audio = true) ∧
      ((t.call k).state = .OFFERED → (t.call k).audio = .SILENT ∧ (t.call k).channel = none ∧
        (t.call k).poolPlayer = none ∧ (t.call k).nextAnnouncement = none) ∧
      (s.NoOffer accepting →
        (∃ d : Call, s.Treated accepting (fun p => (s.pool p).state = .IDLE ∨ c.poolPlayer = some p) d ∧
          ({ moved with
            audio := d.audio, channel := d.channel, poolPlayer := d.poolPlayer
            nextAnnouncement := d.nextAnnouncement } : Call).SameButNotices (t.call k)) ∧
        s.PoolTaken t accepting k c.poolPlayer ∧ ((t.call k).channel ≠ none → s.AudioReported t k) ∧
        (t.queue accepting).waiting.Perm (k :: (s.queue accepting).waiting) ∧
        (∀ k', k' ≠ k → (s.call k').SameButNotices (t.call k')) ∧ t.readyList = s.readyList ∧
        ∀ a, (s.agent a).SameButMark (t.agent a))) ∧
    (∀ a start, c.state = .CONNECTED → c.agent = some a → c.talkStart = some start →
      (s.queue q).defined = true → s.WalksTo none q path accepting → ∃ t, asked = .next t ∧
        ((t.call k).state = .QUEUED ∨ (t.call k).state = .OFFERED) ∧ (t.call k).queue = accepting ∧
        (t.call k).entry = entry ∧ (t.call k).joinSeq = s.joinSeq ∧ (t.call k).moveCount = moved.moveCount ∧
        (t.call k).overflowSpent = false ∧ (t.call k).talkStart = none ∧ (t.call k).gen = c.gen ∧
        (t.queue accepting).counters.entered = (s.queue accepting).enteredOnce.counters.entered ∧
        (∀ x, (t.queue x).counters.movedOut = (s.queue x).counters.movedOut) ∧
        t.joinSeq = min (s.joinSeq + 1) 4294967295 ∧ s.SameLibrary t ∧
        (s.NoOffer accepting →
          (∃ d : Call, s.Treated accepting (fun p => (s.pool p).state = .IDLE) d ∧
            (t.call k).audio = d.audio ∧ (t.call k).channel = d.channel ∧
            (c.poolPlayer = none → (t.call k).poolPlayer = d.poolPlayer) ∧
            (t.call k).nextAnnouncement = d.nextAnnouncement) ∧
          (c.poolPlayer = none → s.PoolTaken t accepting k none) ∧
          ((t.call k).channel ≠ none → s.AudioReported t k)) ∧
        (r.params.wrapBase ≠ 0 →
          t.Replies .DONE .NONE 0x23 tag [word accepting.val, word (t.call k).state.code] ∧
          ({ s.agent a with
            state := .WRAP, call := none, stateEntry := s.now, wrapQueue := c.queue, wrapTalk := s.now - start
            wrapStart := s.now, wrapDeadline := s.inSeconds r.params.wrapBase
            wrapLimit := min (s.now + r.params.wrapBase + r.params.wrapExtensionMax) 4294967295 } :
              Agent).SameButMark (t.agent a) ∧
          t.queue accepting = { (s.queue accepting).enteredOnce with waiting := (t.queue accepting).waiting } ∧
          (∀ x, x ≠ accepting → t.queue x = s.passed none path x) ∧
          (s.NoOffer accepting → (t.call k).state = .QUEUED ∧
            (t.queue accepting).waiting.Perm (k :: (s.queue accepting).waiting) ∧
            (∀ k', k' ≠ k → (s.call k').SameButNotices (t.call k')) ∧ t.readyList = s.readyList ∧
            ∀ b, b ≠ a → (s.agent b).SameButMark (t.agent b))) ∧
        (r.params.wrapBase = 0 →
          (∃ st : Word, t.Replies .DONE .NONE 0x23 tag [word accepting.val, st] ∧ (st = 1 ∨ st = 2) ∧
            (s.NoOffer accepting ∨ (t.call k).state = .QUEUED → st = 1)) ∧
          ({ s with
            queues := Vector.ofFn fun x =>
              if x = accepting then (s.queue x).enteredOnce else s.passed none path x } : State).WrapEnds
                t a c.queue (s.now - start) 0 (s.agent a).pending ∧
          s.AgentReported t a)) ∧
    (c.state = .OFFERED → asked = .next (s.replying .REFUSED .STATE 0x23 tag [])) ∧
    (c.state = .QUEUED → q = c.queue → asked = .next (s.replying .REFUSED .BAD_VALUE 0x23 tag [])) ∧
    (c.state ≠ .OFFERED → (c.state = .QUEUED → q ≠ c.queue) → (s.queue q).defined = false →
      asked = .next (s.replying .REFUSED .BAD_QUEUE 0x23 tag [])) ∧
    (∀ last, c.state ≠ .OFFERED → (c.state = .QUEUED → q ≠ c.queue) → (s.queue q).defined = true →
      s.WalkEndsAt own q path last → ∃ t, asked = .next t ∧
        t = { s.replying .REFUSED .DIVERTED 0x23 tag [] with queues := t.queues } ∧
        ∀ x, t.queue x = s.passed own (path ++ [last]) x)

/-- C_CLASS stores the class, clamped to 3. A call that is not QUEUED, keeps its class, or stands in a queue without a
class boost keeps its place; another takes its keyed place in its list (R25, R37). The words of the reply are the
model's choice (log entry 13). -/
def Obligations.CClassRepositionsTheCall : Prop :=
  ∀ (tag : Tag) (k : CallId) (cls : Word) (s : State), s.Taking → s.NoticeLaw → s.RecordsAgree →
    (s.call k).state ≠ .FREE →
    let c := s.call k
    let stored := min cls.toNat 3
    let q := c.queue
    let moves := c.state = .QUEUED ∧ stored ≠ c.cls ∧ (s.queue q).params.classBoost ≠ 0
    let cl := clampClass (decide (3 < cls.toNat))
    let re := clampReason (decide (3 < cls.toNat))
    (¬ moves → exec (.cClass tag (s.handle k).word cls) s = .next
      { s.replying cl re 0x24 tag
          (word stored :: if c.state = .QUEUED then [word ((s.queue q).waiting.idxOf k + 1)] else []) with
        calls := s.calls.set k.val { c with cls := stored } }) ∧
    (moves → ∃ t, exec (.cClass tag (s.handle k).word cls) s = .next t ∧
      (t.call k).cls = stored ∧ (t.call k).entry = c.entry ∧ (t.call k).joinSeq = c.joinSeq ∧
      (t.call k).moveCount = c.moveCount ∧ (t.call k).audio = c.audio ∧ (t.call k).channel = c.channel ∧
      t.queue q = { s.queue q with waiting := (t.queue q).waiting } ∧
      (∀ r, r ≠ q → t.queue r = s.queue r) ∧ t.joinSeq = s.joinSeq ∧ t.treatment = s.treatment ∧ s.SameLibrary t ∧
      (s.NoOffer q →
        t.Replies cl re 0x24 tag [word stored, word ((t.queue q).waiting.idxOf k + 1)] ∧
        (t.queue q).waiting.Perm (s.queue q).waiting ∧
        ((t.queue q).waiting.Pairwise fun a b =>
          notAfter (s.queue q).params.classBoost (t.call a) (t.call b) = true) ∧
        t = { s with
          port := t.port, queues := t.queues, calls := s.calls.set k.val { c with cls := stored } }))

/-- C_QUERY and A_QUERY change nothing and return the record's items in the order of R42 and R63, absent items as
0xFFFFFFFF. That overflow spent and overflow due are the words 1 and 0 is the model's choice (log entry 13). -/
def Obligations.QueriesReturnTheRecord : Prop :=
  ∀ (tag : Tag) (k : CallId) (a : AgentId) (s : State), s.Taking →
    let c := s.call k
    let g := s.agent a
    let opt := fun n : Option Nat => (n.map word).getD 0xFFFFFFFF
    let flag := fun b : Bool => if b then (1 : Word) else 0
    (c.state ≠ .FREE → exec (.cQuery tag (s.handle k).word) s = .next
      (s.replying .DONE .NONE 0x25 tag
        [word c.state.code, word c.queue.val,
          if c.state = .QUEUED ∧ k ∈ (s.queue c.queue).waiting then word ((s.queue c.queue).waiting.idxOf k + 1)
          else 0,
          if c.state = .CONNECTED then word (min (c.talkStart.getD s.now - c.entry) 65535)
          else word (min (s.now - c.entry) 65535),
          word c.cls, opt (c.agent.map (·.val)), word c.audio.code, opt c.channel, word c.moveCount,
          flag c.overflowSpent, flag c.overflowDue, c.callerTag])) ∧
    exec (.aQuery tag (word a.val)) s = .next
      (s.replying .DONE .NONE 0x34 tag
        ([word g.state.code, word g.station, word g.skills.length] ++
          g.skills.map (fun k => word (k.id.val * 256 + k.level)) ++
          [if g.state = .AWAY then word g.awayReason.val else 0, if g.state = .READY then word g.readySince else 0,
            if g.state = .READY then word (s.readyList.idxOf a + 1) else 0,
            if g.state = .OFFERED ∨ g.state = .TALKING then opt (g.call.map fun h => h.slot.val * 32 + h.gen.val)
            else 0xFFFFFFFF,
            match g.pending with
              | .NONE => 0
              | .AWAY r => word (1 + 256 * r.val)
              | .LOGOUT => 2,
            word (s.now - g.stateEntry), if g.state = .WRAP then word g.wrapQueue.val else 0,
            if g.state = .WRAP then word g.wrapStart else 0, if g.state = .WRAP then word g.wrapDeadline.due else 0,
            if g.state = .WRAP then word g.wrapLimit else 0,
            word g.counters.callsHandled, word g.counters.talkSeconds, word g.counters.wrapSeconds,
            word g.counters.awaySeconds, word g.counters.ronaCount]))

/-! ### Agents and wraps -/

/-- A_LOGIN of a LOGGED_OUT agent at a free station stores station and skills and enters READY, joining the ready list
with queue selection, or AWAY; and A_SKILLS stores a list, with queue selection for a READY agent. A READY agent ends
READY when no queue is a candidate, and OFFERED the head call of the selected queue otherwise (R51, R54, R55, R62,
R71). -/
def Obligations.LoginAndSkillsRunSelection : Prop :=
  ∀ (tag : Tag) (a : AgentId) (station reason : Word) (skills : List Word) (l : List Skill) (s : State), s.Taking →
    s.NoticeLaw → s.RecordsAgree → skillsOf skills = some l → station.toNat ≤ 65535 →
    let g := s.agent a
    let signed : Agent :=
      { g with station := station.toNat, skills := l, pending := .NONE, stateEntry := s.now }
    let held := ∃ b, (s.agent b).state ≠ .LOGGED_OUT ∧ (s.agent b).station = station.toNat
    (∀ r : Fin 16, g.state = .LOGGED_OUT → ¬ held → reason = word r.val → r.val ≤ 14 →
      exec (.aLogin tag (word a.val) station 1 reason skills) s = .next
        { s.replying .DONE .NONE 0x30 tag [1] with
          agents := s.agents.set a.val { signed with state := .AWAY, awayReason := r } }) ∧
    (g.state = .LOGGED_OUT → ¬ held → ∃ t, exec (.aLogin tag (word a.val) station 0 reason skills) s = .next t ∧
      t.Replies .DONE .NONE 0x30 tag [word (t.agent a).state.code] ∧ (t.agent a).station = station.toNat ∧
      (t.agent a).skills = l ∧ (t.agent a).readySince = s.now ∧ (t.agent a).stateEntry = s.now ∧
      (t.agent a).counters = g.counters ∧ t.treatment = s.treatment ∧ s.SameLibrary t ∧
      (let s' : State := { s with agents := s.agents.set a.val { signed with state := .READY } };
        (s'.candidates a = [] →
          (t.agent a).state = .READY ∧ t.readyList.Perm (a :: s.readyList) ∧ t.queues = s.queues ∧
          t.calls = s.calls) ∧
        (∀ q k rest, s'.selectQueue a = some q → (s.queue q).waiting = k :: rest →
          (t.agent a).state = .OFFERED ∧ (t.agent a).call = some (s.handle k) ∧
          t.readyList = s.readyList.erase a ∧ (t.queue q).waiting = rest ∧ (t.call k).state = .OFFERED ∧
          (t.call k).agent = some a ∧ (t.call k).savedReadySince = some s.now))) ∧
    (g.state = .LOGGED_OUT → held → exec (.aLogin tag (word a.val) station 0 reason skills) s =
      .next (s.replying .REFUSED .STATION_IN_USE 0x30 tag [])) ∧
    (g.state ≠ .LOGGED_OUT → exec (.aLogin tag (word a.val) station 0 reason skills) s =
      .next (s.replying .REFUSED .STATE 0x30 tag [])) ∧
    (let s' : State := { s with agents := s.agents.set a.val { g with skills := l } };
      (g.state ≠ .READY ∨ s'.candidates a = [] → exec (.aSkills tag (word a.val) skills) s = .next
        { s.replying .DONE .NONE 0x33 tag [word g.state.code, word l.length] with agents := s'.agents }) ∧
      (∀ q k rest, g.state = .READY → s'.selectQueue a = some q → (s.queue q).waiting = k :: rest →
        ∃ t, exec (.aSkills tag (word a.val) skills) s = .next t ∧
          t.Replies .DONE .NONE 0x33 tag [3, word l.length] ∧ (t.agent a).skills = l ∧
          (t.agent a).state = .OFFERED ∧ (t.agent a).call = some (s.handle k) ∧
          t.readyList = s.readyList.erase a ∧ (t.queue q).waiting = rest ∧ (t.call k).state = .OFFERED ∧
          (t.call k).agent = some a ∧ s.SameLibrary t))

/-- A_LOGOUT and A_SET by the agent's present state, row by row of R60 and Tables 3-5 and 3-6; an A_SET whose expected
set is not empty and lacks the present state is refused MISMATCH. The reply's items at a refusal are the model's
choice (log entry 13). An A_SET READY that ends a wrap sets no AGENT mark (R102). -/
def Obligations.LogoutAndSetFollowTheirTables : Prop :=
  ∀ (tag : Tag) (a : AgentId) (r : Fin 16) (reason expected : Word) (s : State), s.Taking → s.NoticeLaw →
    reason = word r.val → r.val ≤ 14 →
    let g := s.agent a
    let away := min (g.counters.awaySeconds + (s.now - g.stateEntry)) 4294967295
    let items := fun (h : Agent) => [word g.state.code, word h.state.code,
      match h.pending with
        | .NONE => (0 : Word)
        | .AWAY x => word (1 + 256 * x.val)
        | .LOGOUT => 2]
    let becomes := fun (code : BitVec 8) (h : Agent) (ready : List AgentId) =>
      { s.replying .DONE .NONE code tag (items h) with agents := s.agents.set a.val h, readyList := ready }
    let logout := exec (.aLogout tag (word a.val)) s
    let toAway := exec (.aSet tag (word a.val) 1 reason expected) s
    let toReady := exec (.aSet tag (word a.val) 0 reason expected) s
    let expects := expected.extractLsb' 0 6 = 0 ∨ expected.getLsbD g.state.code = true
    (g.state = .LOGGED_OUT ∨ g.state = .OFFERED →
      logout = .next (s.replying .REFUSED .STATE 0x31 tag (items g))) ∧
    (g.state = .AWAY → logout = .next (becomes 0x31
      { g with
        state := .LOGGED_OUT, awayReason := 0, stateEntry := s.now
        counters := { g.counters with awaySeconds := away } } s.readyList)) ∧
    (g.state = .READY → logout = .next (becomes 0x31
      { g with state := .LOGGED_OUT, awayReason := 0, stateEntry := s.now } (s.readyList.erase a))) ∧
    (g.state = .TALKING ∨ g.state = .WRAP →
      logout = .next (becomes 0x31 { g with pending := .LOGOUT } s.readyList)) ∧
    (¬ expects →
      toAway = .next (s.replying .REFUSED .MISMATCH 0x32 tag ((items g).tail)) ∧
      toReady = .next (s.replying .REFUSED .MISMATCH 0x32 tag ((items g).tail))) ∧
    (expects → g.state = .LOGGED_OUT ∨ g.state = .OFFERED →
      toAway = .next (s.replying .REFUSED .STATE 0x32 tag (items g)) ∧
      toReady = .next (s.replying .REFUSED .STATE 0x32 tag (items g))) ∧
    (expects → g.state = .AWAY → toAway = .next (becomes 0x32 { g with awayReason := r } s.readyList)) ∧
    (expects → g.state = .READY →
      toAway = .next (becomes 0x32
        { g with state := .AWAY, awayReason := r, stateEntry := s.now } (s.readyList.erase a)) ∧
      toReady = .next (s.replying .DONE .NONE 0x32 tag (items g))) ∧
    (expects → g.state = .TALKING ∨ g.state = .WRAP →
      (g.pending = .LOGOUT → toAway = .next (s.replying .REFUSED .STATE 0x32 tag (items g))) ∧
      (g.pending ≠ .LOGOUT → toAway = .next (becomes 0x32 { g with pending := .AWAY r } s.readyList))) ∧
    (expects → g.state = .TALKING → toReady = .next (becomes 0x32 { g with pending := .NONE } s.readyList)) ∧
    (expects → g.state = .WRAP → ∃ t, toReady = .next t ∧
      s.WrapEnds t a g.wrapQueue g.wrapTalk (s.now - g.wrapStart) .NONE ∧
      t.Replies .DONE .NONE 0x32 tag (items (t.agent a)) ∧ s.AgentNotReported t a ∧ s.SameLibrary t) ∧
    (expects → g.state = .AWAY → ∃ t, toReady = .next t ∧ (t.agent a).readySince = s.now ∧
      (t.agent a).stateEntry = s.now ∧ (t.agent a).awayReason = 0 ∧
      (t.agent a).counters = { g.counters with awaySeconds := away } ∧
      ((t.agent a).state = .READY ∧ a ∈ t.readyList ∨ (t.agent a).state = .OFFERED) ∧
      (s.candidates a = [] → (t.agent a).state = .READY ∧ t.readyList.Perm (a :: s.readyList) ∧
        t.queues = s.queues ∧ t.calls = s.calls) ∧
      t.Replies .DONE .NONE 0x32 tag (items (t.agent a)) ∧ t.treatment = s.treatment ∧ s.SameLibrary t)

/-- R106: A_COUNTERS answers the five counters as they stood with the state and the seconds in it, in every agent state;
a clear sets all five to 0, which leaves no occupied seconds; nothing else changes. An agent outside 0..1023 is refused
BAD_VALUE. -/
def Obligations.ACountersReturnsAndClears : Prop :=
  ∀ (tag : Tag) (agent clear : Word) (s : State), s.Taking →
    (1024 ≤ agent.toNat → exec (.aCounters tag agent clear) s =
      .next (s.replying .REFUSED .BAD_VALUE 0x35 tag [])) ∧
    (∀ a : AgentId, agent = word a.val →
      let g := s.agent a
      let cleared : Agent := { g with counters := ⟨0, 0, 0, 0, 0⟩ }
      exec (.aCounters tag agent clear) s = .next
        { s.replying .DONE .NONE 0x35 tag
            [word g.counters.callsHandled, word g.counters.talkSeconds, word g.counters.wrapSeconds,
              word g.counters.awaySeconds, word g.counters.ronaCount, word g.state.code,
              word (s.now - g.stateEntry)] with
          agents := if clear = 0 then s.agents else s.agents.set a.val cleared } ∧
      cleared.occupied = 0)

/-- R96: W_EXTEND in WRAP moves the deadline to min(deadline + seconds, limit) and nothing else, PARTIAL CLAMPED when
the sum lies beyond the limit, and answers start, deadline, limit, seconds added and extension left. Out of WRAP it is
refused STATE, outside 0..1023 BAD_VALUE. (Whether a moved deadline can still expire when T is held is log entry 8.) -/
def Obligations.WExtendStopsAtTheLimit : Prop :=
  ∀ (tag : Tag) (agent seconds : Word) (s : State), s.Taking →
    (1024 ≤ agent.toNat → exec (.wExtend tag agent seconds) s =
      .next (s.replying .REFUSED .BAD_VALUE 0x38 tag [])) ∧
    (∀ a : AgentId, agent = word a.val →
      let g := s.agent a
      (g.state ≠ .WRAP → exec (.wExtend tag agent seconds) s =
        .next (s.replying .REFUSED .STATE 0x38 tag [])) ∧
      (g.state = .WRAP → g.wrapDeadline.due ≤ g.wrapLimit → g.wrapLimit ≤ 4294967295 →
        let sum := g.wrapDeadline.due + seconds.toNat
        let due := min sum g.wrapLimit
        ∃ held, exec (.wExtend tag agent seconds) s = .next
          { s.replying (clampClass (decide (g.wrapLimit < sum))) (clampReason (decide (g.wrapLimit < sum))) 0x38 tag
              [word g.wrapStart, word due, word g.wrapLimit, word (due - g.wrapDeadline.due),
                word (g.wrapLimit - due)] with
            agents := s.agents.set a.val { g with wrapDeadline := ⟨due, held⟩ } } ∧
          (due = g.wrapDeadline.due → held = g.wrapDeadline.held)))

/-- The ends of a wrap: W_END, which sets no AGENT mark, and the expiry of its deadline, which sets it. Each counts the
wrap to the agent and the queue, moves the AHT and applies the pending (R97 to R102, R116). That an expiry out of its
condition leaves the state, that a deadline set while T holds does not expire, and the words of W_END's reply, the state
after by its code alone among them, are the model's (log entries 2, 8, 13). -/
def Obligations.WrapsEndOnce : Prop :=
  ∀ (tag : Tag) (a : AgentId) (s : State), s.NoticeLaw →
    let g := s.agent a
    let w := s.now - g.wrapStart
    (s.Taking → g.state = .WRAP → ∃ t, exec (.wEnd tag (word a.val)) s = .next t ∧
      s.WrapEnds t a g.wrapQueue g.wrapTalk w g.pending ∧
      t.Replies .DONE .NONE 0x39 tag
        [word g.wrapTalk, word w,
          match g.pending with
            | .NONE => 0
            | .AWAY x => word (1 + 256 * x.val)
            | .LOGOUT => 2,
          word (t.agent a).state.code] ∧
      s.AgentNotReported t a ∧ t.treatment = s.treatment ∧ s.SameLibrary t) ∧
    (s.Taking → g.state ≠ .WRAP → exec (.wEnd tag (word a.val)) s =
      .next (s.replying .REFUSED .STATE 0x39 tag [])) ∧
    (g.state = .WRAP → g.wrapDeadline.due ≤ s.now → g.wrapDeadline.held = false →
      ∃ t, exec (.wrapExpiry a) s = .next t ∧ s.WrapEnds t a g.wrapQueue g.wrapTalk w g.pending ∧
        t.treatment = s.treatment ∧ s.SameLibrary t ∧ t.port.state = s.port.state ∧ t.port.reply = s.port.reply ∧
        s.AgentReported t a) ∧
    (¬ (g.state = .WRAP ∧ g.wrapDeadline.due ≤ s.now ∧ g.wrapDeadline.held = false) → exec (.wrapExpiry a) s = .next s)

/-! ### The clip store -/

/-- S_MAP: a table that falls or passes 4096 is refused BAD_TABLE; one that would move a segment with PLAY is refused
STATE with the lowest such segment; any other replaces the table and answers the number of segments whose layout
changed (R128 to R130). -/
def Obligations.SMapReplacesTheTable : Prop :=
  ∀ (tag : Tag) (table : List Word) (s : State), s.Taking → table.length = 32 →
    let old := fun k : SegmentId => s.store.boundary k
    let new := fun k : SegmentId => (((table[k.val / 2]?).getD 0).extractLsb' (16 * (k.val % 2)) 16).toNat
    let before := fun (b : SegmentId → Nat) (k : SegmentId) => if k = 0 then 0 else b (k - 1)
    let changes := fun k => before old k ≠ before new k ∨ old k ≠ new k
    let plays := fun k => (s.store.attr k).play = true
    let valid := (∀ i j, i ≤ j → new i ≤ new j) ∧ new 63 ≤ 4096
    (¬ valid → exec (.sMap tag table) s = .next (s.replying .REFUSED .BAD_TABLE 0x40 tag [])) ∧
    (∀ k, valid → changes k → plays k → (∀ j < k, ¬ (changes j ∧ plays j)) →
      exec (.sMap tag table) s = .next (s.replying .REFUSED .STATE 0x40 tag [word k.val])) ∧
    (valid → (∀ k, changes k → ¬ plays k) → ∃ t, exec (.sMap tag table) s = .next t ∧
      (∀ k, t.store.boundary k = new k) ∧
      t = { s.replying .DONE .NONE 0x40 tag [word ((List.finRange 64).countP fun k => decide (changes k))] with
        store := { s.store with bounds := t.store.bounds } })

/-- S_ATTR writes a setting and answers the previous one; where PLAY is lost, every player whose clip in play was
started in the segment is silenced within the request, and no other player is touched (R132). -/
def Obligations.SAttrSilencesTheSegmentsPlayers : Prop :=
  ∀ (tag : Tag) (segment setting : Word) (s : State), s.Taking →
    (64 ≤ segment.toNat ∨ 4 ≤ setting.toNat → exec (.sAttr tag segment setting) s =
      .next (s.replying .REFUSED .BAD_VALUE 0x41 tag [])) ∧
    (∀ (k : SegmentId) (play load : Bool), segment = word k.val →
      setting = word ((if play then 2 else 0) + (if load then 1 else 0)) →
      let was := s.store.attr k
      let silenced := fun p : Player => was.play = true ∧ play = false ∧ ∃ c, p.clip = some c ∧ c.segment = k
      ∃ t, exec (.sAttr tag segment setting) s = .next t ∧
        t = { s.replying .DONE .NONE 0x41 tag [word ((if was.play then 2 else 0) + (if was.load then 1 else 0))] with
          store := { s.store with attrs := s.store.attrs.set k.val ⟨play, load⟩ }
          treatment := { s.treatment with broadcast := t.treatment.broadcast, pool := t.treatment.pool } } ∧
        (∀ p, silenced (s.broadcastPlayer p) →
          t.broadcastPlayer p = { s.broadcastPlayer p with silentClip := true }) ∧
        (∀ p, ¬ silenced (s.broadcastPlayer p) → t.broadcastPlayer p = s.broadcastPlayer p) ∧
        (∀ p, silenced (s.pool p).player →
          t.pool p = { s.pool p with player := { (s.pool p).player with silentClip := true } }) ∧
        (∀ p, ¬ silenced (s.pool p).player → t.pool p = s.pool p))

/-- CLIP_DEFINE empties an entry, or writes it with its length clamped to 4,194,304, and answers the previous entry
with the segment's size and the clip's audible length; identifiers and places out of range are refused BAD_VALUE
(R134). How an EMPTY entry reads in the reply is the model's choice (log entry 13). -/
def Obligations.ClipDefineWritesItsEntry : Prop :=
  ∀ (tag : Tag) (clip segment start length : Word) (s : State), s.Taking →
    (256 ≤ clip.toNat ∨ (segment ≠ 0xFFFFFFFF ∧
      (64 ≤ segment.toNat ∨ 4194304 ≤ start.toNat ∨ length.toNat = 0)) →
      exec (.clipDefine tag clip segment start length) s = .next (s.replying .REFUSED .BAD_VALUE 0x43 tag [])) ∧
    (∀ c : ClipId, clip = word c.val →
      let previous := match s.store.clip c with
        | some e => [word e.segment.val, word e.start, word e.length]
        | none => [0xFFFFFFFF, 0xFFFFFFFF, 0xFFFFFFFF]
      (segment = 0xFFFFFFFF → exec (.clipDefine tag clip segment start length) s = .next
        { s.replying .DONE .NONE 0x43 tag previous with
          store := { s.store with clips := s.store.clips.set c.val none } }) ∧
      (∀ k : SegmentId, segment = word k.val → start.toNat < 4194304 → 1 ≤ length.toNat →
        let l := min length.toNat 4194304
        let size := (s.store.boundary k - s.store.boundaryBefore k) * 1024
        let audible := if start.toNat < size then min l (size - start.toNat) else 0
        let clamped := decide (4194304 < length.toNat)
        exec (.clipDefine tag clip segment start length) s = .next
          { s.replying (clampClass clamped) (clampReason clamped) 0x43 tag
              (previous ++ [word size, word audible]) with
            store := { s.store with clips := s.store.clips.set c.val (some ⟨k, start.toNat, l⟩) } }))

/-- S_LOAD: its tests in order; a load of a group or more goes to LOADING with the count clamped to 65,536 and its
groups counted; one of none ends at once, DONE for a count of 0 and TRUNCATED for 1 to 3 (R135 to R137). That a refused
S_LOAD has residual 0 is the model's choice (log entry 13). -/
def Obligations.SLoadFollowsItsTests : Prop :=
  ∀ (tag : Tag) (segment offset count source : Word) (s : State), s.Taking →
    let run := exec (.sLoad tag segment offset count source) s
    (64 ≤ segment.toNat → run = .next (s.replying .REFUSED .BAD_VALUE 0x42 tag [])) ∧
    (∀ k : SegmentId, segment = word k.val →
      let size := (s.store.boundary k - s.store.boundaryBefore k) * 1024
      let c := min count.toNat 65536
      let g := min (c / 4) ((size - offset.toNat) / 4)
      let allowed := offset.toNat % 4 = 0 ∧ source.toNat % 4 = 0 ∧ offset.toNat < size ∧
        source.toNat + 4 * g ≤ 4294967296
      ((s.store.attr k).load = false → run = .next (s.replying .REFUSED .NOT_LOADABLE 0x42 tag [])) ∧
      ((s.store.attr k).load = true → ¬ allowed → run = .next (s.replying .REFUSED .BAD_VALUE 0x42 tag [])) ∧
      ((s.store.attr k).load = true → allowed → 4 ≤ c → 1 ≤ g ∧ run = .next
        { s with
          port := { s.port with state := .LOADING }
          store := { s.store with
            load := some
              { base := s.store.boundaryBefore k * 1024, offset := offset.toNat, count := c
                clamped := decide (65536 < count.toNat), groups := g, written := 0, source := source.toNat
                tag := tag } } }) ∧
      ((s.store.attr k).load = true → allowed → c = 0 → run =
        .next (s.replying .DONE .NONE 0x42 tag [0, 0, offset])) ∧
      ((s.store.attr k).load = true → allowed → 1 ≤ c → c < 4 → run = .next
        { s with port := s.port.replying .PARTIAL .TRUNCATED 0x42 tag c [word c, 0, offset] [] }))

/-- A load fetches and writes its groups in ascending order, each from the source address plus 4 times its ordinal, the
four bytes of each together and no other byte; it completes when the last is written, with the class and residual of
Table 7-5; a fault on a group's fetch ends it with what was written before standing (R137, R138, R140). That the bytes
fetched are the command's operands is log entry 7, and that a load event out of its turn leaves the state log entry 2:
the model's choices. -/
def Obligations.LoadsWriteGroupByGroup : Prop :=
  ∀ (b0 b1 b2 b3 : Byte) (l : Load) (s : State), s.port.state = .LOADING → s.port.setup.isSome = true →
    s.store.load = some l → Memory.wf s.store.memory = true →
    let a := l.base + l.offset + 4 * l.written
    let residual := l.count - 4 * l.written
    let fetch := l.source + 4 * l.written
    let ended := fun (reads : List Nat) (cls : ReplyClass) (reason : Reason) =>
      Host.Outcome.next (φ := Fault) (ρ := Refusal) { s with
        loadReads := reads
        store := { s.store with load := none }
        port := s.port.replying cls reason 0x42 l.tag residual
          [word l.count, word (4 * l.written), word (l.offset + 4 * l.written)] [] }
    (l.written < l.groups →
      (∃ m, exec (.loadGroupWrite b0 b1 b2 b3) s = .next
          { s with
            loadReads := fetch :: s.loadReads
            store := { s.store with memory := m, load := some { l with written := l.written + 1 } } } ∧
        Memory.read m a = b0 ∧ Memory.read m (a + 1) = b1 ∧ Memory.read m (a + 2) = b2 ∧
        Memory.read m (a + 3) = b3 ∧ (∀ x, (x < a ∨ a + 4 ≤ x) → Memory.read m x = Memory.read s.store.memory x)) ∧
      exec .loadComplete s = .next s ∧ exec .loadBusFault s = ended (fetch :: s.loadReads) .FAULT .BUS_FAULT) ∧
    (l.groups ≤ l.written →
      exec (.loadGroupWrite b0 b1 b2 b3) s = .next s ∧ exec .loadBusFault s = .next s ∧
      (residual = 0 → l.clamped = false → exec .loadComplete s = ended s.loadReads .DONE .NONE) ∧
      (residual = 0 → l.clamped = true → exec .loadComplete s = ended s.loadReads .PARTIAL .CLAMPED) ∧
      (0 < residual → exec .loadComplete s = ended s.loadReads .PARTIAL .TRUNCATED))

/-! ### Treatment -/

/-- PROG_DEFINE stores a programme and restarts its broadcast player at the first clip of the list that is not EMPTY;
SPEECH_DEFINE replaces the whole speech table; each refuses a clip outside 0..255, and touches no call (R147, R148,
R158). That the previous enable flag is the word 1 or 0 is the model's choice (log entry 13). -/
def Obligations.LibraryTablesAreReplacedWhole : Prop :=
  ∀ (tag : Tag) (programme enable : Word) (words : List Word) (s : State), s.Taking →
    (words.length ≤ 60 → 16 ≤ programme.toNat ∨ 8 < words.length ∨ (∃ w ∈ words, 256 ≤ w.toNat) →
      exec (.progDefine tag programme enable words) s = .next (s.replying .REFUSED .BAD_VALUE 0x44 tag [])) ∧
    (∀ (p : ProgrammeId) (clips : List ClipId), programme = word p.val → words = clips.map (fun c => word c.val) →
      clips.length ≤ 8 → ∃ player, exec (.progDefine tag programme enable words) s = .next
        { s.replying .DONE .NONE 0x44 tag
            [if (s.programme p).enabled then 1 else 0, word (s.programme p).clips.length] with
          treatment := { s.treatment with
            programmes := s.treatment.programmes.set p.val ⟨enable != 0, clips⟩
            broadcast := s.treatment.broadcast.set p.val player } } ∧
        (enable = 0 ∨ (∀ c ∈ clips, s.store.clip c = none) →
          player.clip = none ∧ player.clipIndex = 0 ∧ player.position = 0) ∧
        (∀ i e, enable ≠ 0 → s.store.entryAt clips i = some e → (∀ j < i, s.store.entryAt clips j = none) →
          player = s.store.taken i e)) ∧
    (words.length = 31 → (∃ w ∈ words, w ≠ 0xFFFFFFFF ∧ 256 ≤ w.toNat) →
      exec (.speechDefine tag words) s = .next (s.replying .REFUSED .BAD_VALUE 0x45 tag [])) ∧
    (∀ clips : List (Option ClipId), clips.length = 31 →
      words = clips.map (fun c => (c.map fun c => word c.val).getD 0xFFFFFFFF) →
      ∃ t, exec (.speechDefine tag words) s = .next t ∧
        t = { s.replying .DONE .NONE 0x45 tag [word (clips.countP fun c => c.isSome)] with
          treatment := { s.treatment with speech := t.treatment.speech } } ∧
        ∀ i : Fin 31, clips[i.val]? = some t.treatment.speech[i.val])

/-- A player with a clip in play sends the sample of its position, by the five conditions of R145 in their order, and
goes on by one sample; a player with none sends silence and stands. -/
def Obligations.PlayersSendTheSampleOfTheirPosition : Prop :=
  ∀ (p : Player) (st : ClipStore),
    (∀ c, p.clip = some c → p.Sends st c (p.sample st).1 (p.sample st).2) ∧
    (p.clip = none → p.sample st = (0x80, p))

/-- A frame sync in step, 1 to 16 periods after the last, sends a frame and counts its periods; one out of step is
ignored; and in HOLDOVER no frame is sent until the sixteenth regular interval of a run, at which the highway is LOCKED
again, the first frame is sent from the players' held positions and the serial data driven from it, one period is
counted and the CLOCK cause is set (R163, R165, R168 to R170). A second boundary that is still outstanding is taken
first: the model's choice (log entry 4). FRAME_SYNC names the frame syncs of LOCKED alone (log entry 2). -/
def Obligations.FrameSyncsInStepSendFrames : Prop :=
  ∀ (position l n : Nat) (s : State), s.PlayersAgree → s.timeBase.lastSync = some l →
    let b := s.timeBase.settled
    (∀ j, s.timeBase.highway = .LOCKED → 1 ≤ j → j ≤ 16 → position = l + 512 * j →
      ∃ t, exec (.frameSync position) s = .next t ∧ s.FrameSent t ∧ s.AroundFrame t ∧
        t.serialData = some t.frame ∧
        t.timeBase = { b with periodCount := b.periodCount + j, lastSync := some position } ∧
        t.port = { s.port with causes := { s.port.causes with notice := t.port.causes.notice } }) ∧
    (s.timeBase.highway = .LOCKED → (∀ j, 1 ≤ j → j ≤ 16 → position ≠ l + 512 * j) →
      exec (.frameSync position) s = .next s) ∧
    (s.timeBase.highway = .HOLDOVER → exec (.frameSync position) s = .next s) ∧
    (s.timeBase.highway = .HOLDOVER → s.timeBase.run = some n → 15 ≤ n → position = l + 512 →
      ∃ t, exec (.holdoverFrameSync position) s = .next t ∧ s.FrameSent t ∧ s.AroundFrame t ∧
        t.serialData = some t.frame ∧
        t.timeBase =
          { b with
            highway := .LOCKED, run := none, lastSync := some position, periodCount := b.periodCount + 1 } ∧
        t.port =
          { s.port with causes := { s.port.causes with notice := t.port.causes.notice, clock := true } })

/-- At the frame that sends the last sample of a pool player's clip, the player takes up the next clip of its script
that is not EMPTY; when none is left it is released, and its call goes to MUSIC on its queue's programme or to SILENT,
with its next announcement counted from now and its AUDIO marked (R149, R152, R155). The frame is that of a FRAME_SYNC.
That a second boundary still outstanding is taken before it, so that now is the time after it, is the model's choice
(log entry 4). The position, silent-clip flag and held group of a released player are the model's choice (log entry
11). -/
def Obligations.ScriptEndsReturnTheCallToMusic : Prop :=
  ∀ (position l j : Nat) (p : PoolId) (k : CallId) (c : CapturedClip) (s : State), s.PlayersAgree →
    s.timeBase.highway = .LOCKED → s.timeBase.lastSync = some l → 1 ≤ j → j ≤ 16 → position = l + 512 * j →
    (s.call k).poolPlayer = some p → (s.pool p).player.clip = some c →
    c.length ≤ (s.pool p).player.position + 1 →
    let i := (s.pool p).player.clipIndex
    let q := s.queue (s.call k).queue
    let b := s.timeBase.settled
    ∃ t, exec (.frameSync position) s = .next t ∧
      (∀ i' e, i < i' → s.store.entryAt (s.pool p).script i' = some e →
        (∀ x, i < x → x < i' → s.store.entryAt (s.pool p).script x = none) →
        t.pool p = { s.pool p with player := s.store.taken i' e } ∧ (s.call k).SameButNotices (t.call k)) ∧
      ((∀ x, i < x → s.store.entryAt (s.pool p).script x = none) →
        t.pool p = State.reset.pool p ∧
        (∃ audio channel,
          ({ s.call k with
            audio := audio, channel := channel, poolPlayer := none
            nextAnnouncement :=
              if q.params.announceMode ≠ .NONE ∧ q.params.announceInterval ≠ 0 then
                some ⟨min (b.time + q.params.announceInterval) 4294967295, decide (4294967295 ≤ b.time)⟩
              else none } : Call).SameButNotices (t.call k) ∧
          (∀ pr, q.params.programme = some pr → audio = .MUSIC ∧ channel = some pr.val) ∧
          (q.params.programme = none → audio = .SILENT ∧ channel = none)) ∧
        (s.ringRoom = 0 → (t.call k).marks.audio = true ∧ RecordRef.call k ∈ t.notices.backlog))

/-! ### The time base -/

/-- Part time in LOCKED and HOLDOVER, in which the serial data is not driven: the oscillator counts in HOLDOVER alone; a
second boundary takes 8,000 periods and one second, T holding at its greatest value; the entry to HOLDOVER counts 15
periods, drops the run and sets the CLOCK cause; and a frame sync of HOLDOVER starts, extends or restarts the run of
regular frame syncs, which 2 ms without one sets back to waiting (R166 to R170). That these events are commands, and do
not happen in the other highway state, is the model's choice (log entries 2, 4, 18). -/
def Obligations.HoldoverKeepsPartTime : Prop :=
  ∀ (position : Nat) (s : State),
    let b := s.timeBase.settled
    (s.timeBase.highway = .HOLDOVER → s.serialData = none) ∧
    (s.timeBase.highway = .HOLDOVER → exec .oscillatorPeriod s = .next
      { s with timeBase := { b with periodCount := b.periodCount + 1 } }) ∧
    (s.timeBase.highway = .LOCKED → exec .oscillatorPeriod s = .next s) ∧
    (8000 ≤ s.timeBase.periodCount → exec .secondBoundary s = .next
      { s with
        timeBase := { s.timeBase with
          periodCount := s.timeBase.periodCount - 8000
          time := if s.timeBase.time < 4294967295 then s.timeBase.time + 1 else s.timeBase.time } }) ∧
    (s.timeBase.periodCount < 8000 → exec .secondBoundary s = .next s) ∧
    (s.timeBase.highway = .LOCKED → ∃ t, exec .holdoverEntry s = .next t ∧ t.serialData = none ∧
      t = { s with
        timeBase := { b with highway := .HOLDOVER, run := none, periodCount := b.periodCount + 15 }
        port := { s.port with causes := { s.port.causes with clock := true } } }) ∧
    (s.timeBase.highway = .HOLDOVER → exec .holdoverEntry s = .next s) ∧
    (s.timeBase.highway = .LOCKED → exec (.holdoverFrameSync position) s = .next s) ∧
    (s.timeBase.highway = .HOLDOVER → s.timeBase.run = none →
      exec (.holdoverFrameSync position) s = .next
        { s with timeBase := { s.timeBase with run := some 0, lastSync := some position } }) ∧
    (∀ n l, s.timeBase.highway = .HOLDOVER → s.timeBase.run = some n → s.timeBase.lastSync = some l →
      (position ≠ l + 512 → exec (.holdoverFrameSync position) s = .next
        { s with timeBase := { s.timeBase with run := some 0, lastSync := some position } }) ∧
      (position = l + 512 → n < 15 → exec (.holdoverFrameSync position) s = .next
        { s with timeBase := { s.timeBase with run := some (n + 1), lastSync := some position } })) ∧
    (s.timeBase.highway = .HOLDOVER → exec .runTimeout s = .next
      { s with timeBase := { s.timeBase with run := none } }) ∧
    (s.timeBase.highway = .LOCKED → exec .runTimeout s = .next s)

/-! ### Timers -/

/-- The expiry of an offer: the agent goes AWAY with reason 15, counted and marked, and the call is withdrawn. A call
with no overflow due, or with no target, or with a target that refuses, returns to its keyed place in its own queue with
its treatment as it stood or begun; one with overflow due and a target that accepts ends its treatment, is marked MOVED
and joins the target, with treatment there (R39, R83 to R86). Treatment that begins takes the pool player of its
greeting and sets the AUDIO mark when a channel is assigned (R149, R151). An offer that is not posted or whose deadline
lies ahead does not expire. That OFFER_EXPIRY is a command, and leaves the state out of its condition, is the model's
choice (log entries 2, 6). The position, silent-clip flag and held group of a released player are the model's choice
(log entry 11). -/
def Obligations.OfferExpiriesWithdrawTheCall : Prop :=
  ∀ (k : CallId) (s : State), s.RecordsAgree →
    let c := s.call k
    let r := s.queue c.queue
    let expires := c.state = .OFFERED ∧ c.offerPosted = true ∧
      ∃ d, c.offerDeadline = some d ∧ d.due ≤ s.now ∧ d.held = false
    (¬ expires → exec (.offerExpiry k) s = .next s) ∧
    (∀ a, expires → c.agent = some a → ∃ t, exec (.offerExpiry k) s = .next t ∧
      ({ s.agent a with
        state := .AWAY, awayReason := 15, call := none, stateEntry := s.now
        counters := { (s.agent a).counters with
          ronaCount := min ((s.agent a).counters.ronaCount + 1) 4294967295 } } : Agent).SameButMark (t.agent a) ∧
      (s.ringRoom = 0 → (t.agent a).mark = true ∧ RecordRef.agent a ∈ t.notices.backlog ∧
        (t.call k).marks.withdraw = true ∧ (t.call k).withdrawnAgent = some a ∧
        RecordRef.call k ∈ t.notices.backlog) ∧
      ((t.call k).state = .QUEUED ∨ (t.call k).state = .OFFERED) ∧ (t.call k).agent ≠ some a ∧
      (t.call k).overflowDue = false ∧ (t.call k).gen = c.gen ∧ (t.call k).arrival = c.arrival ∧
      (t.call k).cls = c.cls ∧ t.port.state = s.port.state ∧ t.port.reply = s.port.reply ∧ s.SameLibrary t ∧
      (let moves := fun q => c.overflowDue = true ∧ r.params.overflowTarget = some q ∧ s.Admits q
        let spends := fun q => c.overflowDue = true ∧ r.params.overflowTarget = some q ∧ ¬ s.Admits q
        ((∀ q, ¬ moves q) →
          (t.call k).queue = c.queue ∧ (t.call k).entry = c.entry ∧ (t.call k).joinSeq = c.joinSeq ∧
          (t.call k).moveCount = c.moveCount ∧ t.joinSeq = s.joinSeq ∧
          (∀ q, spends q → (t.call k).overflowSpent = true ∧
            (t.queue q).counters = (s.queue q).divertedOnce.counters) ∧
          ((∀ q, ¬ spends q) → (t.call k).overflowSpent = c.overflowSpent) ∧
          (∀ x, ¬ spends x → (t.queue x).counters = (s.queue x).counters) ∧
          (s.NoOffer c.queue → (t.call k).state = .QUEUED ∧ (t.queue c.queue).waiting.Perm (k :: r.waiting) ∧
            (c.audio = .SILENT ∧ c.channel = none ∧ c.nextAnnouncement = none →
              ∃ d : Call, s.Treated c.queue (fun p => (s.pool p).state = .IDLE) d ∧
                (t.call k).audio = d.audio ∧ (t.call k).channel = d.channel ∧
                (c.poolPlayer = none → (t.call k).poolPlayer = d.poolPlayer) ∧
                (t.call k).nextAnnouncement = d.nextAnnouncement ∧
                (c.poolPlayer = none → s.PoolTaken t c.queue k none) ∧
                ((t.call k).channel ≠ none → s.AudioReported t k)) ∧
            (¬ (c.audio = .SILENT ∧ c.channel = none ∧ c.nextAnnouncement = none) →
              (t.call k).audio = c.audio ∧ (t.call k).channel = c.channel ∧
              (t.call k).poolPlayer = c.poolPlayer ∧ (t.call k).nextAnnouncement = c.nextAnnouncement ∧
              t.treatment = s.treatment) ∧
            (∀ k', k' ≠ k → (s.call k').SameButNotices (t.call k')) ∧ t.readyList = s.readyList ∧
            (∀ b, b ≠ a → (s.agent b).SameButMark (t.agent b)))) ∧
        (∀ q, moves q → q ≠ c.queue →
          (t.call k).queue = q ∧ (t.call k).joinSeq = s.joinSeq ∧
          (t.call k).entry = (if (s.queue q).params.carryWait then c.arrival else s.now) ∧
          (t.call k).moveCount = min (c.moveCount + 1) 4 ∧ (t.call k).overflowSpent = false ∧
          t.joinSeq = min (s.joinSeq + 1) 4294967295 ∧
          t.queue c.queue =
            { r with
              counters := { r.counters with
                movedOut := min (r.counters.movedOut + 1) 4294967295
                overflowOut := min (r.counters.overflowOut + 1) 4294967295 } } ∧
          (t.queue q).counters =
            { (s.queue q).counters with entered := min ((s.queue q).counters.entered + 1) 4294967295 } ∧
          (∀ x, x ≠ q → x ≠ c.queue → t.queue x = s.queue x) ∧
          (s.ringRoom = 0 → (t.call k).marks.moved = true ∧
            ((t.call k).movedFrom = if c.marks.moved then c.movedFrom else some c.queue) ∧
            (c.channel ≠ none → (t.call k).marks.audio = true)) ∧
          (∀ p, c.poolPlayer = some p → (t.call k).poolPlayer ≠ some p → t.pool p = State.reset.pool p) ∧
          ((t.call k).state = .OFFERED → (t.call k).audio = .SILENT ∧ (t.call k).channel = none ∧
            (t.call k).poolPlayer = none ∧ (t.call k).nextAnnouncement = none) ∧
          (s.NoOffer q → (t.call k).state = .QUEUED ∧ (t.queue q).waiting.Perm (k :: (s.queue q).waiting) ∧
            (∃ d : Call, s.Treated q (fun p => (s.pool p).state = .IDLE ∨ c.poolPlayer = some p) d ∧
              (t.call k).audio = d.audio ∧ (t.call k).channel = d.channel ∧ (t.call k).poolPlayer = d.poolPlayer ∧
              (t.call k).nextAnnouncement = d.nextAnnouncement) ∧
            s.PoolTaken t q k c.poolPlayer ∧ ((t.call k).channel ≠ none → s.AudioReported t k) ∧
            (∀ k', k' ≠ k → (s.call k').SameButNotices (t.call k')) ∧ t.readyList = s.readyList ∧
            ∀ b, b ≠ a → (s.agent b).SameButMark (t.agent b)))))

/-- The expiry of an overflow timer. It is armed as R38 says; of an OFFERED call it sets overflow due; of a QUEUED call
it moves the call to the target when the target accepts, with new treatment there, its greeting's pool player and its
AUDIO mark among it (R149, R151), and otherwise counts the diversion and sets overflow spent (R38 to R40). That
OVERFLOW_EXPIRY is a command, and leaves the state out of its condition, is the model's choice (log entries 2, 6). The
position, silent-clip flag and held group of a released player are the model's choice (log entry 11). -/
def Obligations.OverflowExpiriesMoveOrSpend : Prop :=
  ∀ (k : CallId) (s : State), s.RecordsAgree → s.NoticeLaw →
    let c := s.call k
    let r := s.queue c.queue
    let armed := (c.state = .QUEUED ∨ c.state = .OFFERED) ∧ r.params.overflowAfter ≠ 0 ∧
      r.params.overflowTarget ≠ none ∧ c.moveCount < 4 ∧ c.overflowSpent = false ∧ c.overflowDue = false
    let expires := armed ∧ min (c.entry + r.params.overflowAfter) 4294967295 ≤ s.now
    (¬ expires → exec (.overflowExpiry k) s = .next s) ∧
    (expires → c.state = .OFFERED → exec (.overflowExpiry k) s = .next
      { s with calls := s.calls.set k.val { c with overflowDue := true } }) ∧
    (∀ q, expires → c.state = .QUEUED → r.params.overflowTarget = some q → ¬ s.Admits q →
      exec (.overflowExpiry k) s = .next
        { s with
          queues := s.queues.set q.val (s.queue q).divertedOnce
          calls := s.calls.set k.val { c with overflowSpent := true } }) ∧
    (∀ q, expires → c.state = .QUEUED → r.params.overflowTarget = some q → s.Admits q → q ≠ c.queue →
      ∃ t, exec (.overflowExpiry k) s = .next t ∧
        ((t.call k).state = .QUEUED ∨ (t.call k).state = .OFFERED) ∧ (t.call k).queue = q ∧
        (t.call k).joinSeq = s.joinSeq ∧
        (t.call k).entry = (if (s.queue q).params.carryWait then c.arrival else s.now) ∧
        (t.call k).moveCount = c.moveCount + 1 ∧ (t.call k).overflowSpent = false ∧ (t.call k).overflowDue = false ∧
        (t.call k).gen = c.gen ∧ (t.call k).arrival = c.arrival ∧ (t.call k).cls = c.cls ∧
        t.joinSeq = min (s.joinSeq + 1) 4294967295 ∧
        t.queue c.queue =
          { r with
            counters := { r.counters with
              movedOut := min (r.counters.movedOut + 1) 4294967295
              overflowOut := min (r.counters.overflowOut + 1) 4294967295 }
            waiting := r.waiting.erase k } ∧
        (t.queue q).counters =
          { (s.queue q).counters with entered := min ((s.queue q).counters.entered + 1) 4294967295 } ∧
        (∀ x, x ≠ q → x ≠ c.queue → t.queue x = s.queue x) ∧
        (s.ringRoom = 0 → (t.call k).marks.moved = true ∧ RecordRef.call k ∈ t.notices.backlog ∧
          ((t.call k).movedFrom = if c.marks.moved then c.movedFrom else some c.queue) ∧
          (c.channel ≠ none → (t.call k).marks.audio = true)) ∧
        (∀ p, c.poolPlayer = some p → (t.call k).poolPlayer ≠ some p → t.pool p = State.reset.pool p) ∧
        ((t.call k).state = .OFFERED → (t.call k).audio = .SILENT ∧ (t.call k).channel = none ∧
          (t.call k).poolPlayer = none ∧ (t.call k).nextAnnouncement = none) ∧
        t.port.state = s.port.state ∧ t.port.reply = s.port.reply ∧ s.SameLibrary t ∧
        (s.NoOffer q → (t.queue q).waiting.Perm (k :: (s.queue q).waiting) ∧ (t.call k).state = .QUEUED ∧
          (∃ d : Call, s.Treated q (fun p => (s.pool p).state = .IDLE ∨ c.poolPlayer = some p) d ∧
            (t.call k).audio = d.audio ∧ (t.call k).channel = d.channel ∧ (t.call k).poolPlayer = d.poolPlayer ∧
            (t.call k).nextAnnouncement = d.nextAnnouncement) ∧
          s.PoolTaken t q k c.poolPlayer ∧ ((t.call k).channel ≠ none → s.AudioReported t k) ∧
          (∀ k', k' ≠ k → (s.call k').SameButNotices (t.call k')) ∧ t.readyList = s.readyList ∧
          (∀ b, (s.agent b).SameButMark (t.agent b))))

/-- A due announcement of a QUEUED call in MUSIC or SILENT, with the highway LOCKED, an IDLE pool player and a script
of at least one clip, starts on the lowest-numbered IDLE player; any other is skipped, the next announcement moving on
by the queue's interval; and none falls due before its time (R153, R154, R159 to R161). That ANNOUNCEMENT_DUE leaves
the state before its time or for a deadline set while T holds is the model's (log entries 2, 8). -/
def Obligations.AnnouncementsStartOrAreSkipped : Prop :=
  ∀ (k : CallId) (d : Deadline) (s : State), s.RecordsAgree → (s.call k).nextAnnouncement = some d →
    let c := s.call k
    let r := s.queue c.queue
    let place := r.waiting.idxOf k + 1
    let staffed := max 1 (s.agents.toList.countP fun g =>
      (g.state == .READY || g.state == .OFFERED || g.state == .TALKING || g.state == .WRAP) && g.qualifies r)
    let script := s.announcementScript r.params.announceMode place
      ((place * r.aht + 16 * staffed - 1) / (16 * staffed))
    let can := c.state = .QUEUED ∧ (c.audio = .MUSIC ∨ c.audio = .SILENT) ∧ s.timeBase.highway = .LOCKED ∧ script ≠ []
    (d.held = true ∨ s.now < d.due → exec (.announcementDue k) s = .next s) ∧
    (d.held = false → d.due ≤ s.now → ¬ (can ∧ ∃ p, (s.pool p).state = .IDLE) →
      exec (.announcementDue k) s = .next
        { s with
          calls := s.calls.set k.val
            { c with
              nextAnnouncement := some
                ⟨min (d.due + r.params.announceInterval) 4294967295, decide (4294967295 ≤ s.now)⟩ } }) ∧
    (∀ p, d.held = false → d.due ≤ s.now → can → (s.pool p).state = .IDLE →
      (∀ p' < p, (s.pool p').state ≠ .IDLE) →
      ∃ t, exec (.announcementDue k) s = .next t ∧
        ({ c with
          audio := .ANNOUNCE, channel := some (16 + p.val), poolPlayer := some p, nextAnnouncement := none } :
            Call).SameButNotices (t.call k) ∧
        (∃ e, s.store.entryAt script 0 = some e ∧ t.pool p =
          { state := .PLAYING, owner := some (s.handle k), script := script, player := s.store.taken 0 e }) ∧
        (∀ p', p' ≠ p → t.pool p' = s.pool p') ∧ (∀ k', k' ≠ k → (s.call k').SameButNotices (t.call k')) ∧
        (∀ a, (s.agent a).SameButMark (t.agent a)) ∧ t.queues = s.queues ∧ t.joinSeq = s.joinSeq ∧
        t.readyList = s.readyList ∧ t.port.state = s.port.state ∧ t.port.reply = s.port.reply ∧ s.SameLibrary t ∧
        (s.ringRoom = 0 → (t.call k).marks.audio = true ∧ RecordRef.call k ∈ t.notices.backlog))

/-! ### Notices -/

/-- The posting from the record at the backlog's head: the first of MOVED, AUDIO, OFFER, WITHDRAW that is pending, or
AGENT, is written into slot (posted index) mod count as Table 10-6 gives, from the record as it stands; the posted
index advances, the mark and its companion are cleared, an OFFER starts its timer, the NOTICE cause is set, and the
record leaves with its last mark. No word of host memory outside the slot is written. A bus fault on a word of the slot
leaves that word, the words after it and word 0 as they stood, and changes nothing else of this (R187, R191 to R194).
The away reason of an AGENT notice is the field as it stands, which is 0 outside AWAY by RecordsStayInAgreement (log
entry 24). -/
def Obligations.NoticesCarryTheRecordAsItStands : Prop :=
  ∀ (r : RecordRef) (rest : List RecordRef) (u : Setup) (s : State), s.notices.backlog = r :: rest → r ∉ rest →
    s.port.setup = some u →
    let t := s.postHead
    let slot := u.ringBase + 16 * (s.notices.posted.toNat % u.slotCount)
    let opt := fun n : Option Nat => (n.map word).getD 0xFFFFFFFF
    let whole := s.ringFaults = [] ∨ ∃ rest, s.ringFaults = none :: rest
    (s.pendingKind r ≠ none →
      t.notices.posted = s.notices.posted + 1 ∧ t.notices.taken = s.notices.taken ∧
      t.port = { s.port with causes := { s.port.causes with notice := true } } ∧
      (∀ n rest, s.ringFaults = some n :: rest → n < 4 →
        t.hostWord slot = s.hostWord slot ∧ t.bus.length = s.bus.length + n ∧
        ∀ j, n < j → j < 4 → t.hostWord (slot + 4 * j) = s.hostWord (slot + 4 * j)) ∧
      (∀ x, x ≠ slot → x ≠ slot + 4 → x ≠ slot + 8 → x ≠ slot + 12 → t.hostWord x = s.hostWord x) ∧
      t.queues = s.queues ∧ t.readyList = s.readyList ∧ t.store = s.store ∧ t.treatment = s.treatment ∧
      t.timeBase = s.timeBase ∧ t.joinSeq = s.joinSeq ∧ t.pending = s.pending ∧ t.loadReads = s.loadReads ∧
      t.frame = s.frame ∧ t.framesSent = s.framesSent) ∧
    (∀ a, r = .agent a → (s.agent a).mark = true →
      t.agents = s.agents.set a.val { s.agent a with mark := false } ∧ t.calls = s.calls ∧
      t.notices.backlog = rest ∧
      (whole → t.SlotHolds slot 5 a.val (word (s.agent a).state.code) (word (s.agent a).awayReason.val) s.now)) ∧
    (∀ k, r = .call k →
      let c := s.call k
      let h := k.val * 32 + c.gen.val
      let left := fun m : Marks => if m = ⟨false, false, false, false⟩ then rest else r :: rest
      (c.marks.moved = true →
        t.calls = s.calls.set k.val { c with marks := { c.marks with moved := false }, movedFrom := none } ∧
        t.notices.backlog = left { c.marks with moved := false } ∧ t.agents = s.agents ∧
        (whole → t.SlotHolds slot 4 h (opt (c.movedFrom.map (·.val))) (word c.queue.val) s.now)) ∧
      (c.marks.moved = false → c.marks.audio = true →
        t.calls = s.calls.set k.val { c with marks := { c.marks with audio := false } } ∧
        t.notices.backlog = left { c.marks with audio := false } ∧ t.agents = s.agents ∧
        (whole → t.SlotHolds slot 3 h (opt c.channel) 0 s.now)) ∧
      (c.marks.moved = false → c.marks.audio = false → c.marks.offer = true →
        t.calls = s.calls.set k.val
          { c with
            marks := { c.marks with offer := false }, offerPosted := true
            offerDeadline := some (s.inSeconds (s.queue c.queue).params.answerTimeout) } ∧
        t.notices.backlog = left { c.marks with offer := false } ∧ t.agents = s.agents ∧
        (∀ a, c.agent = some a → whole → t.SlotHolds slot 1 h (word a.val)
          (word ((s.agent a).station + c.queue.val * 65536)) s.now)) ∧
      (c.marks.moved = false → c.marks.audio = false → c.marks.offer = false → c.marks.withdraw = true →
        t.calls = s.calls.set k.val { c with marks := { c.marks with withdraw := false }, withdrawnAgent := none } ∧
        t.notices.backlog = rest ∧ t.agents = s.agents ∧
        (whole → t.SlotHolds slot 2 h (opt (c.withdrawnAgent.map (·.val))) 0 s.now)))

/-! ### Distribution -/

/-- The agent a sweep chooses is a READY agent that qualifies and stands first under the queue's policy, ties going to
the earlier ready-since and then the lower index; none is chosen only when none qualifies (R67). -/
def Obligations.SweepsChooseByPolicy : Prop :=
  ∀ (q : QueueId) (s : State),
    (s.chooseAgent q = none ↔ ∀ a ∈ s.readyList, (s.agent a).qualifies (s.queue q) = false) ∧
    (∀ a, s.chooseAgent q = some a →
      a ∈ s.readyList ∧ (s.agent a).qualifies (s.queue q) = true ∧
      ∀ b ∈ s.readyList, (s.agent b).qualifies (s.queue q) = true → b ≠ a →
        s.GoesBefore (s.queue q) a b)

/-- Queue selection chooses among the queues that distribute, hold a waiting call and suit the agent: the starving one
whose head has waited longest, or when none starves the one of highest score, the lowest number first among equals; and
no score of a queue with its parameters in range passes 4,196,280 (R71 to R74). -/
def Obligations.SelectionPrefersStarvationThenScore : Prop :=
  ∀ (a : AgentId) (s : State),
    let candidate := fun q => (s.queue q).mode.distribute = true ∧ (s.queue q).waiting ≠ [] ∧
      (s.agent a).qualifies (s.queue q) = true
    let wait := fun q => match (s.queue q).waiting with
      | [] => 0
      | k :: _ => min (s.now - (s.call k).entry) 65535
    let starving := fun q => candidate q ∧ (s.queue q).params.guard ≠ 0 ∧ (s.queue q).params.guard ≤ wait q
    let level := fun q => match (s.agent a).skills.find? fun k => k.id = (s.queue q).params.skill with
      | some k => k.level
      | none => 0
    let boosted := fun q => match (s.queue q).waiting with
      | [] => 0
      | k :: _ => (s.call k).cls * (s.queue q).params.classBoost
    let score := fun q =>
      min (wait q + boosted q) 65535 * (if (s.queue q).liftFlag then 2 * (s.queue q).params.weight
        else (s.queue q).params.weight) +
      (s.queue q).params.skillGain * (level q - (s.queue q).params.minLevel)
    (s.selectQueue a = none ↔ ∀ q, ¬ candidate q) ∧
    (∀ q, s.selectQueue a = some q → candidate q ∧
      ((∃ r, starving r) → starving q ∧ ∀ r, starving r → wait r < wait q ∨ (wait r = wait q ∧ q ≤ r)) ∧
      ((∀ r, ¬ starving r) → ∀ r, candidate r → score r < score q ∨ (score r = score q ∧ q ≤ r))) ∧
    (∀ q, candidate q → (s.queue q).params.weight ≤ 32 → (s.queue q).params.skillGain ≤ 255 →
      1 ≤ (s.queue q).params.minLevel → level q ≤ 9 → score q ≤ 4196280)

/-! ### Requests as words -/

/-- The words of every request's block read back as the request: no bit of a parameter is dropped; and the block has a
code, a length of at most 64 and the length its code asks for, so that none is refused at its fetch
(R174, R186, Table 10-8). -/
def Obligations.BlockWordsReadBack : Prop :=
  ∀ (i : Instr) (b : Block), i.wellFormed = true → i.block = some b →
    decodeBlock b.words = some i ∧ b.code ∈ requestCodes ∧ b.words.length ≤ 64 ∧
      expectedLength b.code b.params = some b.words.length

/-! ### What every step keeps -/

/-- The state after power-on meets every law of the model. The held groups and the reply have no value in a table: the
model's choice (log entry 16). -/
def Obligations.ResetIsLawful : Prop :=
  State.reset.ParamsInRange ∧ State.reset.RecordsInRange ∧ State.reset.CountersInRange ∧ State.reset.StampsInRange ∧
    State.reset.LibraryInRange ∧ State.reset.TimeInRange ∧ State.reset.AhtInRange ∧
    State.reset.StoreLaw ∧ State.reset.PortLaw ∧ State.reset.ReplyFits ∧ State.reset.RecordsAgree ∧
    State.reset.FieldsOfState ∧ State.reset.ListsOrdered ∧ State.reset.NoneLeftWaiting ∧ State.reset.PlayersAgree ∧
    State.reset.NoticeLaw ∧ State.reset.BacklogExact ∧ State.reset.Balanced ∧ State.reset.CountersOrdered

/-- These fields stay in the range their table gives: the parameters of the queues (Table 1-1); classes, move counts,
channels, join sequences, stations, skills, pendings and wrap deadlines (Tables 2-1, 3-1); every counter of a queue and
of an agent (R105, R108); the moments and deadlines of calls and agents (Tables 2-1, 3-1, 5-1); the clip table, the
programmes and the players (R133, R146, Table 8-1); and T and the regular run (Table 9-2). The period count stays below
8,016 and not within the table's 0..7,999, since SECOND_BOUNDARY is a step of its own: the model's choice (log entry 4).
That a player with no clip in play has position 0 is the model's choice (log entry 11). -/
def Obligations.FieldRangesAreKept : Prop :=
  ∀ s s' : State, step s = .next s' →
    (s.ParamsInRange → s'.ParamsInRange) ∧ (s.RecordsInRange → s'.RecordsInRange) ∧
      (s.RecordsAgree → s.CountersInRange → s'.CountersInRange) ∧ (s.StampsInRange → s'.StampsInRange) ∧
      (s.StoreLaw → s.LibraryInRange → s'.LibraryInRange) ∧ (s.TimeInRange → s'.TimeInRange)

/-- R117: the AHT of every queue lies in 16..57,600, after power-on and after every step; an update puts it between the
old value and 16 × h, and leaves it where the difference is within 7. -/
def Obligations.AhtNeverLeavesItsRange : Prop :=
  State.reset.AhtInRange ∧ (∀ s s' : State, s.AhtInRange → step s = .next s' → s'.AhtInRange) ∧
    ∀ aht t w : Nat,
      let h := min (max (t + w) 1) 3600
      (16 ≤ 16 * h ∧ 16 * h ≤ 57600) ∧ min aht (16 * h) ≤ ahtUpdate aht t w ∧ ahtUpdate aht t w ≤ max aht (16 * h) ∧
        (aht ≤ 16 * h + 7 → 16 * h ≤ aht + 7 → ahtUpdate aht t w = aht)

/-- The clip store keeps its law: the boundary table never falls and never passes 4096, the memory stays canonical and
within its size, and a load stays within the store (R124, R127, R136). The port keeps its own: a reply in REPLYING
alone, a load in LOADING alone, and neither while setup is absent, where the enables are off and the ring indices 0
(R171, R172, R180); and a reply fits its area (R177). -/
def Obligations.StoreAndPortLawsAreKept : Prop :=
  ∀ s s' : State, step s = .next s' →
    (s.StoreLaw → s'.StoreLaw) ∧ (s.PortLaw → s'.PortLaw) ∧ (s.RecordsInRange → s.ReplyFits → s'.ReplyFits)

/-- The waiting lists hold exactly the QUEUED calls of their queues, the ready list exactly the READY agents in order of
ready-since and index, and each OFFERED or CONNECTED call is paired with one OFFERED or TALKING agent, a CONNECTED one
having a talk start, after every step (R24, R50, R76, R81). And the fields of an agent that belong to one state hold
their value outside it: away reason, wrap fields, pending and call (R49, R61, R91, Table 3-4). -/
def Obligations.RecordsStayInAgreement : Prop :=
  ∀ s s' : State, s.RecordsAgree → step s = .next s' →
    s'.RecordsAgree ∧ (s.FieldsOfState → s'.FieldsOfState)

/-- Each waiting list stays in ascending order of effective entry time, with equal ones in ascending join sequence
(R25). -/
def Obligations.ListsStayOrdered : Prop :=
  ∀ s s' : State, s.RecordsAgree → s.ListsOrdered → step s = .next s' → s'.ListsOrdered

/-- After every step no READY agent qualifies for a queue that distributes and holds a waiting call (R70). -/
def Obligations.NoCallIsLeftToAReadyAgent : Prop :=
  ∀ s s' : State, s.RecordsAgree → s.NoneLeftWaiting → step s = .next s' → s'.NoneLeftWaiting

/-- No pool player serves two calls, a call holds one only in GREETING or ANNOUNCE and on its channel, and an IDLE
player holds nothing, after every step (R149, R150). The position, silent-clip flag and held group of an IDLE player are
the model's choice (log entry 11). -/
def Obligations.PoolPlayersServeOneCallEach : Prop :=
  ∀ s s' : State, s.PlayersAgree → step s = .next s' → s'.PlayersAgree

/-- The ring and the backlog keep their law: the occupancy within the count, each record in the backlog once, every
marked record in it, and a backlog only while the ring is full; and with the records in agreement, no other record in it
(R187, R190, R196). -/
def Obligations.BacklogLawIsKept : Prop :=
  ∀ s s' : State, step s = .next s' →
    (s.NoticeLaw → s'.NoticeLaw) ∧
    (s.RecordsAgree → s.PlayersAgree → s.NoticeLaw → s.BacklogExact → s'.BacklogExact)

/-- For every queue none of whose counters has saturated, entered equals answered, abandoned and moved-out with the
calls present, after every step; and answered-in-target, abandoned-short and overflow-out never pass their totals (R108,
R109). -/
def Obligations.CountersStayBalanced : Prop :=
  ∀ s s' : State, step s = .next s' →
    (s.RecordsAgree → s.Balanced → s'.Balanced) ∧ (s.CountersOrdered → s'.CountersOrdered)

end
end

