-- ==== Sys2Proof/Laws/State.lean ====
section
/-! SUPPORT. What each update of the state leaves in each field: one lemma per field and update, true by rfl. -/

namespace Sys2Proof.Machine

/-! ### setQueue -/

@[simp] theorem State.setQueue_queues (s : State) (q : QueueId) (r : Queue) :
    (s.setQueue q r).queues = s.queues.set q.val r := rfl
@[simp] theorem State.setQueue_joinSeq (s : State) (q : QueueId) (r : Queue) :
    (s.setQueue q r).joinSeq = s.joinSeq := rfl
@[simp] theorem State.setQueue_calls (s : State) (q : QueueId) (r : Queue) :
    (s.setQueue q r).calls = s.calls := rfl
@[simp] theorem State.setQueue_agents (s : State) (q : QueueId) (r : Queue) :
    (s.setQueue q r).agents = s.agents := rfl
@[simp] theorem State.setQueue_readyList (s : State) (q : QueueId) (r : Queue) :
    (s.setQueue q r).readyList = s.readyList := rfl
@[simp] theorem State.setQueue_store (s : State) (q : QueueId) (r : Queue) :
    (s.setQueue q r).store = s.store := rfl
@[simp] theorem State.setQueue_treatment (s : State) (q : QueueId) (r : Queue) :
    (s.setQueue q r).treatment = s.treatment := rfl
@[simp] theorem State.setQueue_timeBase (s : State) (q : QueueId) (r : Queue) :
    (s.setQueue q r).timeBase = s.timeBase := rfl
@[simp] theorem State.setQueue_port (s : State) (q : QueueId) (r : Queue) :
    (s.setQueue q r).port = s.port := rfl
@[simp] theorem State.setQueue_notices (s : State) (q : QueueId) (r : Queue) :
    (s.setQueue q r).notices = s.notices := rfl
@[simp] theorem State.setQueue_pending (s : State) (q : QueueId) (r : Queue) :
    (s.setQueue q r).pending = s.pending := rfl
@[simp] theorem State.setQueue_bus (s : State) (q : QueueId) (r : Queue) :
    (s.setQueue q r).bus = s.bus := rfl
@[simp] theorem State.setQueue_ringFaults (s : State) (q : QueueId) (r : Queue) :
    (s.setQueue q r).ringFaults = s.ringFaults := rfl
@[simp] theorem State.setQueue_loadReads (s : State) (q : QueueId) (r : Queue) :
    (s.setQueue q r).loadReads = s.loadReads := rfl
@[simp] theorem State.setQueue_frame (s : State) (q : QueueId) (r : Queue) :
    (s.setQueue q r).frame = s.frame := rfl
@[simp] theorem State.setQueue_framesSent (s : State) (q : QueueId) (r : Queue) :
    (s.setQueue q r).framesSent = s.framesSent := rfl

/-! ### setCall -/

@[simp] theorem State.setCall_queues (s : State) (k : CallId) (c : Call) :
    (s.setCall k c).queues = s.queues := rfl
@[simp] theorem State.setCall_joinSeq (s : State) (k : CallId) (c : Call) :
    (s.setCall k c).joinSeq = s.joinSeq := rfl
@[simp] theorem State.setCall_calls (s : State) (k : CallId) (c : Call) :
    (s.setCall k c).calls = s.calls.set k.val c := rfl
@[simp] theorem State.setCall_agents (s : State) (k : CallId) (c : Call) :
    (s.setCall k c).agents = s.agents := rfl
@[simp] theorem State.setCall_readyList (s : State) (k : CallId) (c : Call) :
    (s.setCall k c).readyList = s.readyList := rfl
@[simp] theorem State.setCall_store (s : State) (k : CallId) (c : Call) :
    (s.setCall k c).store = s.store := rfl
@[simp] theorem State.setCall_treatment (s : State) (k : CallId) (c : Call) :
    (s.setCall k c).treatment = s.treatment := rfl
@[simp] theorem State.setCall_timeBase (s : State) (k : CallId) (c : Call) :
    (s.setCall k c).timeBase = s.timeBase := rfl
@[simp] theorem State.setCall_port (s : State) (k : CallId) (c : Call) :
    (s.setCall k c).port = s.port := rfl
@[simp] theorem State.setCall_notices (s : State) (k : CallId) (c : Call) :
    (s.setCall k c).notices = s.notices := rfl
@[simp] theorem State.setCall_pending (s : State) (k : CallId) (c : Call) :
    (s.setCall k c).pending = s.pending := rfl
@[simp] theorem State.setCall_bus (s : State) (k : CallId) (c : Call) :
    (s.setCall k c).bus = s.bus := rfl
@[simp] theorem State.setCall_ringFaults (s : State) (k : CallId) (c : Call) :
    (s.setCall k c).ringFaults = s.ringFaults := rfl
@[simp] theorem State.setCall_loadReads (s : State) (k : CallId) (c : Call) :
    (s.setCall k c).loadReads = s.loadReads := rfl
@[simp] theorem State.setCall_frame (s : State) (k : CallId) (c : Call) :
    (s.setCall k c).frame = s.frame := rfl
@[simp] theorem State.setCall_framesSent (s : State) (k : CallId) (c : Call) :
    (s.setCall k c).framesSent = s.framesSent := rfl

/-! ### setAgent -/

@[simp] theorem State.setAgent_queues (s : State) (a : AgentId) (g : Agent) :
    (s.setAgent a g).queues = s.queues := rfl
@[simp] theorem State.setAgent_joinSeq (s : State) (a : AgentId) (g : Agent) :
    (s.setAgent a g).joinSeq = s.joinSeq := rfl
@[simp] theorem State.setAgent_calls (s : State) (a : AgentId) (g : Agent) :
    (s.setAgent a g).calls = s.calls := rfl
@[simp] theorem State.setAgent_agents (s : State) (a : AgentId) (g : Agent) :
    (s.setAgent a g).agents = s.agents.set a.val g := rfl
@[simp] theorem State.setAgent_readyList (s : State) (a : AgentId) (g : Agent) :
    (s.setAgent a g).readyList = s.readyList := rfl
@[simp] theorem State.setAgent_store (s : State) (a : AgentId) (g : Agent) :
    (s.setAgent a g).store = s.store := rfl
@[simp] theorem State.setAgent_treatment (s : State) (a : AgentId) (g : Agent) :
    (s.setAgent a g).treatment = s.treatment := rfl
@[simp] theorem State.setAgent_timeBase (s : State) (a : AgentId) (g : Agent) :
    (s.setAgent a g).timeBase = s.timeBase := rfl
@[simp] theorem State.setAgent_port (s : State) (a : AgentId) (g : Agent) :
    (s.setAgent a g).port = s.port := rfl
@[simp] theorem State.setAgent_notices (s : State) (a : AgentId) (g : Agent) :
    (s.setAgent a g).notices = s.notices := rfl
@[simp] theorem State.setAgent_pending (s : State) (a : AgentId) (g : Agent) :
    (s.setAgent a g).pending = s.pending := rfl
@[simp] theorem State.setAgent_bus (s : State) (a : AgentId) (g : Agent) :
    (s.setAgent a g).bus = s.bus := rfl
@[simp] theorem State.setAgent_ringFaults (s : State) (a : AgentId) (g : Agent) :
    (s.setAgent a g).ringFaults = s.ringFaults := rfl
@[simp] theorem State.setAgent_loadReads (s : State) (a : AgentId) (g : Agent) :
    (s.setAgent a g).loadReads = s.loadReads := rfl
@[simp] theorem State.setAgent_frame (s : State) (a : AgentId) (g : Agent) :
    (s.setAgent a g).frame = s.frame := rfl
@[simp] theorem State.setAgent_framesSent (s : State) (a : AgentId) (g : Agent) :
    (s.setAgent a g).framesSent = s.framesSent := rfl

/-! ### setPool -/

@[simp] theorem State.setPool_queues (s : State) (p : PoolId) (r : PoolPlayer) :
    (s.setPool p r).queues = s.queues := rfl
@[simp] theorem State.setPool_joinSeq (s : State) (p : PoolId) (r : PoolPlayer) :
    (s.setPool p r).joinSeq = s.joinSeq := rfl
@[simp] theorem State.setPool_calls (s : State) (p : PoolId) (r : PoolPlayer) :
    (s.setPool p r).calls = s.calls := rfl
@[simp] theorem State.setPool_agents (s : State) (p : PoolId) (r : PoolPlayer) :
    (s.setPool p r).agents = s.agents := rfl
@[simp] theorem State.setPool_readyList (s : State) (p : PoolId) (r : PoolPlayer) :
    (s.setPool p r).readyList = s.readyList := rfl
@[simp] theorem State.setPool_store (s : State) (p : PoolId) (r : PoolPlayer) :
    (s.setPool p r).store = s.store := rfl
@[simp] theorem State.setPool_treatment (s : State) (p : PoolId) (r : PoolPlayer) :
    (s.setPool p r).treatment = { s.treatment with pool := s.treatment.pool.set p.val r } := rfl
@[simp] theorem State.setPool_timeBase (s : State) (p : PoolId) (r : PoolPlayer) :
    (s.setPool p r).timeBase = s.timeBase := rfl
@[simp] theorem State.setPool_port (s : State) (p : PoolId) (r : PoolPlayer) :
    (s.setPool p r).port = s.port := rfl
@[simp] theorem State.setPool_notices (s : State) (p : PoolId) (r : PoolPlayer) :
    (s.setPool p r).notices = s.notices := rfl
@[simp] theorem State.setPool_pending (s : State) (p : PoolId) (r : PoolPlayer) :
    (s.setPool p r).pending = s.pending := rfl
@[simp] theorem State.setPool_bus (s : State) (p : PoolId) (r : PoolPlayer) :
    (s.setPool p r).bus = s.bus := rfl
@[simp] theorem State.setPool_ringFaults (s : State) (p : PoolId) (r : PoolPlayer) :
    (s.setPool p r).ringFaults = s.ringFaults := rfl
@[simp] theorem State.setPool_loadReads (s : State) (p : PoolId) (r : PoolPlayer) :
    (s.setPool p r).loadReads = s.loadReads := rfl
@[simp] theorem State.setPool_frame (s : State) (p : PoolId) (r : PoolPlayer) :
    (s.setPool p r).frame = s.frame := rfl
@[simp] theorem State.setPool_framesSent (s : State) (p : PoolId) (r : PoolPlayer) :
    (s.setPool p r).framesSent = s.framesSent := rfl

/-! ### setWaiting -/

@[simp] theorem State.setWaiting_queues (s : State) (q : QueueId) (l : List CallId) :
    (s.setWaiting q l).queues = s.queues.set q.val { s.queue q with waiting := l } := rfl
@[simp] theorem State.setWaiting_joinSeq (s : State) (q : QueueId) (l : List CallId) :
    (s.setWaiting q l).joinSeq = s.joinSeq := rfl
@[simp] theorem State.setWaiting_calls (s : State) (q : QueueId) (l : List CallId) :
    (s.setWaiting q l).calls = s.calls := rfl
@[simp] theorem State.setWaiting_agents (s : State) (q : QueueId) (l : List CallId) :
    (s.setWaiting q l).agents = s.agents := rfl
@[simp] theorem State.setWaiting_readyList (s : State) (q : QueueId) (l : List CallId) :
    (s.setWaiting q l).readyList = s.readyList := rfl
@[simp] theorem State.setWaiting_store (s : State) (q : QueueId) (l : List CallId) :
    (s.setWaiting q l).store = s.store := rfl
@[simp] theorem State.setWaiting_treatment (s : State) (q : QueueId) (l : List CallId) :
    (s.setWaiting q l).treatment = s.treatment := rfl
@[simp] theorem State.setWaiting_timeBase (s : State) (q : QueueId) (l : List CallId) :
    (s.setWaiting q l).timeBase = s.timeBase := rfl
@[simp] theorem State.setWaiting_port (s : State) (q : QueueId) (l : List CallId) :
    (s.setWaiting q l).port = s.port := rfl
@[simp] theorem State.setWaiting_notices (s : State) (q : QueueId) (l : List CallId) :
    (s.setWaiting q l).notices = s.notices := rfl
@[simp] theorem State.setWaiting_pending (s : State) (q : QueueId) (l : List CallId) :
    (s.setWaiting q l).pending = s.pending := rfl
@[simp] theorem State.setWaiting_bus (s : State) (q : QueueId) (l : List CallId) :
    (s.setWaiting q l).bus = s.bus := rfl
@[simp] theorem State.setWaiting_ringFaults (s : State) (q : QueueId) (l : List CallId) :
    (s.setWaiting q l).ringFaults = s.ringFaults := rfl
@[simp] theorem State.setWaiting_loadReads (s : State) (q : QueueId) (l : List CallId) :
    (s.setWaiting q l).loadReads = s.loadReads := rfl
@[simp] theorem State.setWaiting_frame (s : State) (q : QueueId) (l : List CallId) :
    (s.setWaiting q l).frame = s.frame := rfl
@[simp] theorem State.setWaiting_framesSent (s : State) (q : QueueId) (l : List CallId) :
    (s.setWaiting q l).framesSent = s.framesSent := rfl

/-! ### setCounters -/

@[simp] theorem State.setCounters_queues (s : State) (q : QueueId) (c : QueueCounters) :
    (s.setCounters q c).queues = s.queues.set q.val { s.queue q with counters := c } := rfl
@[simp] theorem State.setCounters_joinSeq (s : State) (q : QueueId) (c : QueueCounters) :
    (s.setCounters q c).joinSeq = s.joinSeq := rfl
@[simp] theorem State.setCounters_calls (s : State) (q : QueueId) (c : QueueCounters) :
    (s.setCounters q c).calls = s.calls := rfl
@[simp] theorem State.setCounters_agents (s : State) (q : QueueId) (c : QueueCounters) :
    (s.setCounters q c).agents = s.agents := rfl
@[simp] theorem State.setCounters_readyList (s : State) (q : QueueId) (c : QueueCounters) :
    (s.setCounters q c).readyList = s.readyList := rfl
@[simp] theorem State.setCounters_store (s : State) (q : QueueId) (c : QueueCounters) :
    (s.setCounters q c).store = s.store := rfl
@[simp] theorem State.setCounters_treatment (s : State) (q : QueueId) (c : QueueCounters) :
    (s.setCounters q c).treatment = s.treatment := rfl
@[simp] theorem State.setCounters_timeBase (s : State) (q : QueueId) (c : QueueCounters) :
    (s.setCounters q c).timeBase = s.timeBase := rfl
@[simp] theorem State.setCounters_port (s : State) (q : QueueId) (c : QueueCounters) :
    (s.setCounters q c).port = s.port := rfl
@[simp] theorem State.setCounters_notices (s : State) (q : QueueId) (c : QueueCounters) :
    (s.setCounters q c).notices = s.notices := rfl
@[simp] theorem State.setCounters_pending (s : State) (q : QueueId) (c : QueueCounters) :
    (s.setCounters q c).pending = s.pending := rfl
@[simp] theorem State.setCounters_bus (s : State) (q : QueueId) (c : QueueCounters) :
    (s.setCounters q c).bus = s.bus := rfl
@[simp] theorem State.setCounters_ringFaults (s : State) (q : QueueId) (c : QueueCounters) :
    (s.setCounters q c).ringFaults = s.ringFaults := rfl
@[simp] theorem State.setCounters_loadReads (s : State) (q : QueueId) (c : QueueCounters) :
    (s.setCounters q c).loadReads = s.loadReads := rfl
@[simp] theorem State.setCounters_frame (s : State) (q : QueueId) (c : QueueCounters) :
    (s.setCounters q c).frame = s.frame := rfl
@[simp] theorem State.setCounters_framesSent (s : State) (q : QueueId) (c : QueueCounters) :
    (s.setCounters q c).framesSent = s.framesSent := rfl

/-! ### setReadyList -/

@[simp] theorem State.setReadyList_queues (s : State) (l : List AgentId) :
    (s.setReadyList l).queues = s.queues := rfl
@[simp] theorem State.setReadyList_joinSeq (s : State) (l : List AgentId) :
    (s.setReadyList l).joinSeq = s.joinSeq := rfl
@[simp] theorem State.setReadyList_calls (s : State) (l : List AgentId) :
    (s.setReadyList l).calls = s.calls := rfl
@[simp] theorem State.setReadyList_agents (s : State) (l : List AgentId) :
    (s.setReadyList l).agents = s.agents := rfl
@[simp] theorem State.setReadyList_readyList (s : State) (l : List AgentId) :
    (s.setReadyList l).readyList = l := rfl
@[simp] theorem State.setReadyList_store (s : State) (l : List AgentId) :
    (s.setReadyList l).store = s.store := rfl
@[simp] theorem State.setReadyList_treatment (s : State) (l : List AgentId) :
    (s.setReadyList l).treatment = s.treatment := rfl
@[simp] theorem State.setReadyList_timeBase (s : State) (l : List AgentId) :
    (s.setReadyList l).timeBase = s.timeBase := rfl
@[simp] theorem State.setReadyList_port (s : State) (l : List AgentId) :
    (s.setReadyList l).port = s.port := rfl
@[simp] theorem State.setReadyList_notices (s : State) (l : List AgentId) :
    (s.setReadyList l).notices = s.notices := rfl
@[simp] theorem State.setReadyList_pending (s : State) (l : List AgentId) :
    (s.setReadyList l).pending = s.pending := rfl
@[simp] theorem State.setReadyList_bus (s : State) (l : List AgentId) :
    (s.setReadyList l).bus = s.bus := rfl
@[simp] theorem State.setReadyList_ringFaults (s : State) (l : List AgentId) :
    (s.setReadyList l).ringFaults = s.ringFaults := rfl
@[simp] theorem State.setReadyList_loadReads (s : State) (l : List AgentId) :
    (s.setReadyList l).loadReads = s.loadReads := rfl
@[simp] theorem State.setReadyList_frame (s : State) (l : List AgentId) :
    (s.setReadyList l).frame = s.frame := rfl
@[simp] theorem State.setReadyList_framesSent (s : State) (l : List AgentId) :
    (s.setReadyList l).framesSent = s.framesSent := rfl

/-! ### setJoinSeq -/

@[simp] theorem State.setJoinSeq_queues (s : State) (n : Nat) :
    (s.setJoinSeq n).queues = s.queues := rfl
@[simp] theorem State.setJoinSeq_joinSeq (s : State) (n : Nat) :
    (s.setJoinSeq n).joinSeq = n := rfl
@[simp] theorem State.setJoinSeq_calls (s : State) (n : Nat) :
    (s.setJoinSeq n).calls = s.calls := rfl
@[simp] theorem State.setJoinSeq_agents (s : State) (n : Nat) :
    (s.setJoinSeq n).agents = s.agents := rfl
@[simp] theorem State.setJoinSeq_readyList (s : State) (n : Nat) :
    (s.setJoinSeq n).readyList = s.readyList := rfl
@[simp] theorem State.setJoinSeq_store (s : State) (n : Nat) :
    (s.setJoinSeq n).store = s.store := rfl
@[simp] theorem State.setJoinSeq_treatment (s : State) (n : Nat) :
    (s.setJoinSeq n).treatment = s.treatment := rfl
@[simp] theorem State.setJoinSeq_timeBase (s : State) (n : Nat) :
    (s.setJoinSeq n).timeBase = s.timeBase := rfl
@[simp] theorem State.setJoinSeq_port (s : State) (n : Nat) :
    (s.setJoinSeq n).port = s.port := rfl
@[simp] theorem State.setJoinSeq_notices (s : State) (n : Nat) :
    (s.setJoinSeq n).notices = s.notices := rfl
@[simp] theorem State.setJoinSeq_pending (s : State) (n : Nat) :
    (s.setJoinSeq n).pending = s.pending := rfl
@[simp] theorem State.setJoinSeq_bus (s : State) (n : Nat) :
    (s.setJoinSeq n).bus = s.bus := rfl
@[simp] theorem State.setJoinSeq_ringFaults (s : State) (n : Nat) :
    (s.setJoinSeq n).ringFaults = s.ringFaults := rfl
@[simp] theorem State.setJoinSeq_loadReads (s : State) (n : Nat) :
    (s.setJoinSeq n).loadReads = s.loadReads := rfl
@[simp] theorem State.setJoinSeq_frame (s : State) (n : Nat) :
    (s.setJoinSeq n).frame = s.frame := rfl
@[simp] theorem State.setJoinSeq_framesSent (s : State) (n : Nat) :
    (s.setJoinSeq n).framesSent = s.framesSent := rfl

/-! ### setStore -/

@[simp] theorem State.setStore_queues (s : State) (st : ClipStore) :
    (s.setStore st).queues = s.queues := rfl
@[simp] theorem State.setStore_joinSeq (s : State) (st : ClipStore) :
    (s.setStore st).joinSeq = s.joinSeq := rfl
@[simp] theorem State.setStore_calls (s : State) (st : ClipStore) :
    (s.setStore st).calls = s.calls := rfl
@[simp] theorem State.setStore_agents (s : State) (st : ClipStore) :
    (s.setStore st).agents = s.agents := rfl
@[simp] theorem State.setStore_readyList (s : State) (st : ClipStore) :
    (s.setStore st).readyList = s.readyList := rfl
@[simp] theorem State.setStore_store (s : State) (st : ClipStore) :
    (s.setStore st).store = st := rfl
@[simp] theorem State.setStore_treatment (s : State) (st : ClipStore) :
    (s.setStore st).treatment = s.treatment := rfl
@[simp] theorem State.setStore_timeBase (s : State) (st : ClipStore) :
    (s.setStore st).timeBase = s.timeBase := rfl
@[simp] theorem State.setStore_port (s : State) (st : ClipStore) :
    (s.setStore st).port = s.port := rfl
@[simp] theorem State.setStore_notices (s : State) (st : ClipStore) :
    (s.setStore st).notices = s.notices := rfl
@[simp] theorem State.setStore_pending (s : State) (st : ClipStore) :
    (s.setStore st).pending = s.pending := rfl
@[simp] theorem State.setStore_bus (s : State) (st : ClipStore) :
    (s.setStore st).bus = s.bus := rfl
@[simp] theorem State.setStore_ringFaults (s : State) (st : ClipStore) :
    (s.setStore st).ringFaults = s.ringFaults := rfl
@[simp] theorem State.setStore_loadReads (s : State) (st : ClipStore) :
    (s.setStore st).loadReads = s.loadReads := rfl
@[simp] theorem State.setStore_frame (s : State) (st : ClipStore) :
    (s.setStore st).frame = s.frame := rfl
@[simp] theorem State.setStore_framesSent (s : State) (st : ClipStore) :
    (s.setStore st).framesSent = s.framesSent := rfl

/-! ### setTreatment -/

@[simp] theorem State.setTreatment_queues (s : State) (u : Treatment) :
    (s.setTreatment u).queues = s.queues := rfl
@[simp] theorem State.setTreatment_joinSeq (s : State) (u : Treatment) :
    (s.setTreatment u).joinSeq = s.joinSeq := rfl
@[simp] theorem State.setTreatment_calls (s : State) (u : Treatment) :
    (s.setTreatment u).calls = s.calls := rfl
@[simp] theorem State.setTreatment_agents (s : State) (u : Treatment) :
    (s.setTreatment u).agents = s.agents := rfl
@[simp] theorem State.setTreatment_readyList (s : State) (u : Treatment) :
    (s.setTreatment u).readyList = s.readyList := rfl
@[simp] theorem State.setTreatment_store (s : State) (u : Treatment) :
    (s.setTreatment u).store = s.store := rfl
@[simp] theorem State.setTreatment_treatment (s : State) (u : Treatment) :
    (s.setTreatment u).treatment = u := rfl
@[simp] theorem State.setTreatment_timeBase (s : State) (u : Treatment) :
    (s.setTreatment u).timeBase = s.timeBase := rfl
@[simp] theorem State.setTreatment_port (s : State) (u : Treatment) :
    (s.setTreatment u).port = s.port := rfl
@[simp] theorem State.setTreatment_notices (s : State) (u : Treatment) :
    (s.setTreatment u).notices = s.notices := rfl
@[simp] theorem State.setTreatment_pending (s : State) (u : Treatment) :
    (s.setTreatment u).pending = s.pending := rfl
@[simp] theorem State.setTreatment_bus (s : State) (u : Treatment) :
    (s.setTreatment u).bus = s.bus := rfl
@[simp] theorem State.setTreatment_ringFaults (s : State) (u : Treatment) :
    (s.setTreatment u).ringFaults = s.ringFaults := rfl
@[simp] theorem State.setTreatment_loadReads (s : State) (u : Treatment) :
    (s.setTreatment u).loadReads = s.loadReads := rfl
@[simp] theorem State.setTreatment_frame (s : State) (u : Treatment) :
    (s.setTreatment u).frame = s.frame := rfl
@[simp] theorem State.setTreatment_framesSent (s : State) (u : Treatment) :
    (s.setTreatment u).framesSent = s.framesSent := rfl

/-! ### setTimeBase -/

@[simp] theorem State.setTimeBase_queues (s : State) (b : TimeBase) :
    (s.setTimeBase b).queues = s.queues := rfl
@[simp] theorem State.setTimeBase_joinSeq (s : State) (b : TimeBase) :
    (s.setTimeBase b).joinSeq = s.joinSeq := rfl
@[simp] theorem State.setTimeBase_calls (s : State) (b : TimeBase) :
    (s.setTimeBase b).calls = s.calls := rfl
@[simp] theorem State.setTimeBase_agents (s : State) (b : TimeBase) :
    (s.setTimeBase b).agents = s.agents := rfl
@[simp] theorem State.setTimeBase_readyList (s : State) (b : TimeBase) :
    (s.setTimeBase b).readyList = s.readyList := rfl
@[simp] theorem State.setTimeBase_store (s : State) (b : TimeBase) :
    (s.setTimeBase b).store = s.store := rfl
@[simp] theorem State.setTimeBase_treatment (s : State) (b : TimeBase) :
    (s.setTimeBase b).treatment = s.treatment := rfl
@[simp] theorem State.setTimeBase_timeBase (s : State) (b : TimeBase) :
    (s.setTimeBase b).timeBase = b := rfl
@[simp] theorem State.setTimeBase_port (s : State) (b : TimeBase) :
    (s.setTimeBase b).port = s.port := rfl
@[simp] theorem State.setTimeBase_notices (s : State) (b : TimeBase) :
    (s.setTimeBase b).notices = s.notices := rfl
@[simp] theorem State.setTimeBase_pending (s : State) (b : TimeBase) :
    (s.setTimeBase b).pending = s.pending := rfl
@[simp] theorem State.setTimeBase_bus (s : State) (b : TimeBase) :
    (s.setTimeBase b).bus = s.bus := rfl
@[simp] theorem State.setTimeBase_ringFaults (s : State) (b : TimeBase) :
    (s.setTimeBase b).ringFaults = s.ringFaults := rfl
@[simp] theorem State.setTimeBase_loadReads (s : State) (b : TimeBase) :
    (s.setTimeBase b).loadReads = s.loadReads := rfl
@[simp] theorem State.setTimeBase_frame (s : State) (b : TimeBase) :
    (s.setTimeBase b).frame = s.frame := rfl
@[simp] theorem State.setTimeBase_framesSent (s : State) (b : TimeBase) :
    (s.setTimeBase b).framesSent = s.framesSent := rfl

/-! ### setPort -/

@[simp] theorem State.setPort_queues (s : State) (p : Port) :
    (s.setPort p).queues = s.queues := rfl
@[simp] theorem State.setPort_joinSeq (s : State) (p : Port) :
    (s.setPort p).joinSeq = s.joinSeq := rfl
@[simp] theorem State.setPort_calls (s : State) (p : Port) :
    (s.setPort p).calls = s.calls := rfl
@[simp] theorem State.setPort_agents (s : State) (p : Port) :
    (s.setPort p).agents = s.agents := rfl
@[simp] theorem State.setPort_readyList (s : State) (p : Port) :
    (s.setPort p).readyList = s.readyList := rfl
@[simp] theorem State.setPort_store (s : State) (p : Port) :
    (s.setPort p).store = s.store := rfl
@[simp] theorem State.setPort_treatment (s : State) (p : Port) :
    (s.setPort p).treatment = s.treatment := rfl
@[simp] theorem State.setPort_timeBase (s : State) (p : Port) :
    (s.setPort p).timeBase = s.timeBase := rfl
@[simp] theorem State.setPort_port (s : State) (p : Port) :
    (s.setPort p).port = p := rfl
@[simp] theorem State.setPort_notices (s : State) (p : Port) :
    (s.setPort p).notices = s.notices := rfl
@[simp] theorem State.setPort_pending (s : State) (p : Port) :
    (s.setPort p).pending = s.pending := rfl
@[simp] theorem State.setPort_bus (s : State) (p : Port) :
    (s.setPort p).bus = s.bus := rfl
@[simp] theorem State.setPort_ringFaults (s : State) (p : Port) :
    (s.setPort p).ringFaults = s.ringFaults := rfl
@[simp] theorem State.setPort_loadReads (s : State) (p : Port) :
    (s.setPort p).loadReads = s.loadReads := rfl
@[simp] theorem State.setPort_frame (s : State) (p : Port) :
    (s.setPort p).frame = s.frame := rfl
@[simp] theorem State.setPort_framesSent (s : State) (p : Port) :
    (s.setPort p).framesSent = s.framesSent := rfl

/-! ### setNotices -/

@[simp] theorem State.setNotices_queues (s : State) (n : NoticeUnit) :
    (s.setNotices n).queues = s.queues := rfl
@[simp] theorem State.setNotices_joinSeq (s : State) (n : NoticeUnit) :
    (s.setNotices n).joinSeq = s.joinSeq := rfl
@[simp] theorem State.setNotices_calls (s : State) (n : NoticeUnit) :
    (s.setNotices n).calls = s.calls := rfl
@[simp] theorem State.setNotices_agents (s : State) (n : NoticeUnit) :
    (s.setNotices n).agents = s.agents := rfl
@[simp] theorem State.setNotices_readyList (s : State) (n : NoticeUnit) :
    (s.setNotices n).readyList = s.readyList := rfl
@[simp] theorem State.setNotices_store (s : State) (n : NoticeUnit) :
    (s.setNotices n).store = s.store := rfl
@[simp] theorem State.setNotices_treatment (s : State) (n : NoticeUnit) :
    (s.setNotices n).treatment = s.treatment := rfl
@[simp] theorem State.setNotices_timeBase (s : State) (n : NoticeUnit) :
    (s.setNotices n).timeBase = s.timeBase := rfl
@[simp] theorem State.setNotices_port (s : State) (n : NoticeUnit) :
    (s.setNotices n).port = s.port := rfl
@[simp] theorem State.setNotices_notices (s : State) (n : NoticeUnit) :
    (s.setNotices n).notices = n := rfl
@[simp] theorem State.setNotices_pending (s : State) (n : NoticeUnit) :
    (s.setNotices n).pending = s.pending := rfl
@[simp] theorem State.setNotices_bus (s : State) (n : NoticeUnit) :
    (s.setNotices n).bus = s.bus := rfl
@[simp] theorem State.setNotices_ringFaults (s : State) (n : NoticeUnit) :
    (s.setNotices n).ringFaults = s.ringFaults := rfl
@[simp] theorem State.setNotices_loadReads (s : State) (n : NoticeUnit) :
    (s.setNotices n).loadReads = s.loadReads := rfl
@[simp] theorem State.setNotices_frame (s : State) (n : NoticeUnit) :
    (s.setNotices n).frame = s.frame := rfl
@[simp] theorem State.setNotices_framesSent (s : State) (n : NoticeUnit) :
    (s.setNotices n).framesSent = s.framesSent := rfl

/-! ### setFrame -/

@[simp] theorem State.setFrame_queues (s : State) (l : List Byte) (n : Nat) :
    (s.setFrame l n).queues = s.queues := rfl
@[simp] theorem State.setFrame_joinSeq (s : State) (l : List Byte) (n : Nat) :
    (s.setFrame l n).joinSeq = s.joinSeq := rfl
@[simp] theorem State.setFrame_calls (s : State) (l : List Byte) (n : Nat) :
    (s.setFrame l n).calls = s.calls := rfl
@[simp] theorem State.setFrame_agents (s : State) (l : List Byte) (n : Nat) :
    (s.setFrame l n).agents = s.agents := rfl
@[simp] theorem State.setFrame_readyList (s : State) (l : List Byte) (n : Nat) :
    (s.setFrame l n).readyList = s.readyList := rfl
@[simp] theorem State.setFrame_store (s : State) (l : List Byte) (n : Nat) :
    (s.setFrame l n).store = s.store := rfl
@[simp] theorem State.setFrame_treatment (s : State) (l : List Byte) (n : Nat) :
    (s.setFrame l n).treatment = s.treatment := rfl
@[simp] theorem State.setFrame_timeBase (s : State) (l : List Byte) (n : Nat) :
    (s.setFrame l n).timeBase = s.timeBase := rfl
@[simp] theorem State.setFrame_port (s : State) (l : List Byte) (n : Nat) :
    (s.setFrame l n).port = s.port := rfl
@[simp] theorem State.setFrame_notices (s : State) (l : List Byte) (n : Nat) :
    (s.setFrame l n).notices = s.notices := rfl
@[simp] theorem State.setFrame_pending (s : State) (l : List Byte) (n : Nat) :
    (s.setFrame l n).pending = s.pending := rfl
@[simp] theorem State.setFrame_bus (s : State) (l : List Byte) (n : Nat) :
    (s.setFrame l n).bus = s.bus := rfl
@[simp] theorem State.setFrame_ringFaults (s : State) (l : List Byte) (n : Nat) :
    (s.setFrame l n).ringFaults = s.ringFaults := rfl
@[simp] theorem State.setFrame_loadReads (s : State) (l : List Byte) (n : Nat) :
    (s.setFrame l n).loadReads = s.loadReads := rfl
@[simp] theorem State.setFrame_frame (s : State) (l : List Byte) (n : Nat) :
    (s.setFrame l n).frame = l := rfl
@[simp] theorem State.setFrame_framesSent (s : State) (l : List Byte) (n : Nat) :
    (s.setFrame l n).framesSent = n := rfl

/-! ### withPending -/

@[simp] theorem State.withPending_queues (s : State) (l : List Instr) :
    (s.withPending l).queues = s.queues := rfl
@[simp] theorem State.withPending_joinSeq (s : State) (l : List Instr) :
    (s.withPending l).joinSeq = s.joinSeq := rfl
@[simp] theorem State.withPending_calls (s : State) (l : List Instr) :
    (s.withPending l).calls = s.calls := rfl
@[simp] theorem State.withPending_agents (s : State) (l : List Instr) :
    (s.withPending l).agents = s.agents := rfl
@[simp] theorem State.withPending_readyList (s : State) (l : List Instr) :
    (s.withPending l).readyList = s.readyList := rfl
@[simp] theorem State.withPending_store (s : State) (l : List Instr) :
    (s.withPending l).store = s.store := rfl
@[simp] theorem State.withPending_treatment (s : State) (l : List Instr) :
    (s.withPending l).treatment = s.treatment := rfl
@[simp] theorem State.withPending_timeBase (s : State) (l : List Instr) :
    (s.withPending l).timeBase = s.timeBase := rfl
@[simp] theorem State.withPending_port (s : State) (l : List Instr) :
    (s.withPending l).port = s.port := rfl
@[simp] theorem State.withPending_notices (s : State) (l : List Instr) :
    (s.withPending l).notices = s.notices := rfl
@[simp] theorem State.withPending_pending (s : State) (l : List Instr) :
    (s.withPending l).pending = l := rfl
@[simp] theorem State.withPending_bus (s : State) (l : List Instr) :
    (s.withPending l).bus = s.bus := rfl
@[simp] theorem State.withPending_ringFaults (s : State) (l : List Instr) :
    (s.withPending l).ringFaults = s.ringFaults := rfl
@[simp] theorem State.withPending_loadReads (s : State) (l : List Instr) :
    (s.withPending l).loadReads = s.loadReads := rfl
@[simp] theorem State.withPending_frame (s : State) (l : List Instr) :
    (s.withPending l).frame = s.frame := rfl
@[simp] theorem State.withPending_framesSent (s : State) (l : List Instr) :
    (s.withPending l).framesSent = s.framesSent := rfl

/-! ### writeBus -/

@[simp] theorem State.writeBus_queues (s : State) (ws : List BusWrite) :
    (s.writeBus ws).queues = s.queues := rfl
@[simp] theorem State.writeBus_joinSeq (s : State) (ws : List BusWrite) :
    (s.writeBus ws).joinSeq = s.joinSeq := rfl
@[simp] theorem State.writeBus_calls (s : State) (ws : List BusWrite) :
    (s.writeBus ws).calls = s.calls := rfl
@[simp] theorem State.writeBus_agents (s : State) (ws : List BusWrite) :
    (s.writeBus ws).agents = s.agents := rfl
@[simp] theorem State.writeBus_readyList (s : State) (ws : List BusWrite) :
    (s.writeBus ws).readyList = s.readyList := rfl
@[simp] theorem State.writeBus_store (s : State) (ws : List BusWrite) :
    (s.writeBus ws).store = s.store := rfl
@[simp] theorem State.writeBus_treatment (s : State) (ws : List BusWrite) :
    (s.writeBus ws).treatment = s.treatment := rfl
@[simp] theorem State.writeBus_timeBase (s : State) (ws : List BusWrite) :
    (s.writeBus ws).timeBase = s.timeBase := rfl
@[simp] theorem State.writeBus_port (s : State) (ws : List BusWrite) :
    (s.writeBus ws).port = s.port := rfl
@[simp] theorem State.writeBus_notices (s : State) (ws : List BusWrite) :
    (s.writeBus ws).notices = s.notices := rfl
@[simp] theorem State.writeBus_pending (s : State) (ws : List BusWrite) :
    (s.writeBus ws).pending = s.pending := rfl
@[simp] theorem State.writeBus_bus (s : State) (ws : List BusWrite) :
    (s.writeBus ws).bus = ws.reverse ++ s.bus := rfl
@[simp] theorem State.writeBus_ringFaults (s : State) (ws : List BusWrite) :
    (s.writeBus ws).ringFaults = s.ringFaults := rfl
@[simp] theorem State.writeBus_loadReads (s : State) (ws : List BusWrite) :
    (s.writeBus ws).loadReads = s.loadReads := rfl
@[simp] theorem State.writeBus_frame (s : State) (ws : List BusWrite) :
    (s.writeBus ws).frame = s.frame := rfl
@[simp] theorem State.writeBus_framesSent (s : State) (ws : List BusWrite) :
    (s.writeBus ws).framesSent = s.framesSent := rfl

/-! ### noteLoadRead -/

@[simp] theorem State.noteLoadRead_queues (s : State) (a : Nat) :
    (s.noteLoadRead a).queues = s.queues := rfl
@[simp] theorem State.noteLoadRead_joinSeq (s : State) (a : Nat) :
    (s.noteLoadRead a).joinSeq = s.joinSeq := rfl
@[simp] theorem State.noteLoadRead_calls (s : State) (a : Nat) :
    (s.noteLoadRead a).calls = s.calls := rfl
@[simp] theorem State.noteLoadRead_agents (s : State) (a : Nat) :
    (s.noteLoadRead a).agents = s.agents := rfl
@[simp] theorem State.noteLoadRead_readyList (s : State) (a : Nat) :
    (s.noteLoadRead a).readyList = s.readyList := rfl
@[simp] theorem State.noteLoadRead_store (s : State) (a : Nat) :
    (s.noteLoadRead a).store = s.store := rfl
@[simp] theorem State.noteLoadRead_treatment (s : State) (a : Nat) :
    (s.noteLoadRead a).treatment = s.treatment := rfl
@[simp] theorem State.noteLoadRead_timeBase (s : State) (a : Nat) :
    (s.noteLoadRead a).timeBase = s.timeBase := rfl
@[simp] theorem State.noteLoadRead_port (s : State) (a : Nat) :
    (s.noteLoadRead a).port = s.port := rfl
@[simp] theorem State.noteLoadRead_notices (s : State) (a : Nat) :
    (s.noteLoadRead a).notices = s.notices := rfl
@[simp] theorem State.noteLoadRead_pending (s : State) (a : Nat) :
    (s.noteLoadRead a).pending = s.pending := rfl
@[simp] theorem State.noteLoadRead_bus (s : State) (a : Nat) :
    (s.noteLoadRead a).bus = s.bus := rfl
@[simp] theorem State.noteLoadRead_ringFaults (s : State) (a : Nat) :
    (s.noteLoadRead a).ringFaults = s.ringFaults := rfl
@[simp] theorem State.noteLoadRead_loadReads (s : State) (a : Nat) :
    (s.noteLoadRead a).loadReads = a :: s.loadReads := rfl
@[simp] theorem State.noteLoadRead_frame (s : State) (a : Nat) :
    (s.noteLoadRead a).frame = s.frame := rfl
@[simp] theorem State.noteLoadRead_framesSent (s : State) (a : Nat) :
    (s.noteLoadRead a).framesSent = s.framesSent := rfl

end Sys2Proof.Machine
end

