-- ==== Sys2Proof/Laws/Access.lean ====
section
/-! SUPPORT. Reading a record after an update: the record written reads as written, every other as before. -/

namespace Sys2Proof.Machine

/-! ### A record after a write of its table -/

@[simp] theorem State.queue_setQueue (s : State) (q r : QueueId) (x : Queue) :
    (s.setQueue q x).queue r = if q = r then x else s.queue r := by
  simp [State.queue, State.setQueue, Vector.getElem_set, Fin.ext_iff]

@[simp] theorem State.call_setCall (s : State) (k j : CallId) (x : Call) :
    (s.setCall k x).call j = if k = j then x else s.call j := by
  simp [State.call, State.setCall, Vector.getElem_set, Fin.ext_iff]

@[simp] theorem State.agent_setAgent (s : State) (a b : AgentId) (x : Agent) :
    (s.setAgent a x).agent b = if a = b then x else s.agent b := by
  simp [State.agent, State.setAgent, Vector.getElem_set, Fin.ext_iff]

@[simp] theorem State.pool_setPool (s : State) (p r : PoolId) (x : PoolPlayer) :
    (s.setPool p x).pool r = if p = r then x else s.pool r := by
  simp [State.pool, State.setPool, Vector.getElem_set, Fin.ext_iff]

@[simp] theorem State.queue_setWaiting (s : State) (q r : QueueId) (l : List CallId) :
    (s.setWaiting q l).queue r = if q = r then { s.queue q with waiting := l } else s.queue r := by
  simp [State.setWaiting]

@[simp] theorem State.queue_setCounters (s : State) (q r : QueueId) (c : QueueCounters) :
    (s.setCounters q c).queue r = if q = r then { s.queue q with counters := c } else s.queue r := by
  simp [State.setCounters]

/-! ### Records of the other tables -/

@[simp] theorem State.call_setQueue (s : State) (x : QueueId) (r : Queue) (k : CallId) :
    (s.setQueue x r).call k = s.call k := rfl
@[simp] theorem State.agent_setQueue (s : State) (x : QueueId) (r : Queue) (a : AgentId) :
    (s.setQueue x r).agent a = s.agent a := rfl
@[simp] theorem State.pool_setQueue (s : State) (x : QueueId) (r : Queue) (p : PoolId) :
    (s.setQueue x r).pool p = s.pool p := rfl
@[simp] theorem State.now_setQueue (s : State) (x : QueueId) (r : Queue) : (s.setQueue x r).now = s.now := rfl
@[simp] theorem State.queue_setCall (s : State) (x : CallId) (c : Call) (q : QueueId) :
    (s.setCall x c).queue q = s.queue q := rfl
@[simp] theorem State.agent_setCall (s : State) (x : CallId) (c : Call) (a : AgentId) :
    (s.setCall x c).agent a = s.agent a := rfl
@[simp] theorem State.pool_setCall (s : State) (x : CallId) (c : Call) (p : PoolId) :
    (s.setCall x c).pool p = s.pool p := rfl
@[simp] theorem State.now_setCall (s : State) (x : CallId) (c : Call) : (s.setCall x c).now = s.now := rfl
@[simp] theorem State.queue_setAgent (s : State) (x : AgentId) (g : Agent) (q : QueueId) :
    (s.setAgent x g).queue q = s.queue q := rfl
@[simp] theorem State.call_setAgent (s : State) (x : AgentId) (g : Agent) (k : CallId) :
    (s.setAgent x g).call k = s.call k := rfl
@[simp] theorem State.pool_setAgent (s : State) (x : AgentId) (g : Agent) (p : PoolId) :
    (s.setAgent x g).pool p = s.pool p := rfl
@[simp] theorem State.now_setAgent (s : State) (x : AgentId) (g : Agent) : (s.setAgent x g).now = s.now := rfl
@[simp] theorem State.queue_setPool (s : State) (x : PoolId) (r : PoolPlayer) (q : QueueId) :
    (s.setPool x r).queue q = s.queue q := rfl
@[simp] theorem State.call_setPool (s : State) (x : PoolId) (r : PoolPlayer) (k : CallId) :
    (s.setPool x r).call k = s.call k := rfl
@[simp] theorem State.agent_setPool (s : State) (x : PoolId) (r : PoolPlayer) (a : AgentId) :
    (s.setPool x r).agent a = s.agent a := rfl
@[simp] theorem State.now_setPool (s : State) (x : PoolId) (r : PoolPlayer) : (s.setPool x r).now = s.now := rfl
@[simp] theorem State.call_setWaiting (s : State) (x : QueueId) (l : List CallId) (k : CallId) :
    (s.setWaiting x l).call k = s.call k := rfl
@[simp] theorem State.agent_setWaiting (s : State) (x : QueueId) (l : List CallId) (a : AgentId) :
    (s.setWaiting x l).agent a = s.agent a := rfl
@[simp] theorem State.pool_setWaiting (s : State) (x : QueueId) (l : List CallId) (p : PoolId) :
    (s.setWaiting x l).pool p = s.pool p := rfl
@[simp] theorem State.now_setWaiting (s : State) (x : QueueId) (l : List CallId) : (s.setWaiting x l).now = s.now := rfl
@[simp] theorem State.call_setCounters (s : State) (x : QueueId) (c : QueueCounters) (k : CallId) :
    (s.setCounters x c).call k = s.call k := rfl
@[simp] theorem State.agent_setCounters (s : State) (x : QueueId) (c : QueueCounters) (a : AgentId) :
    (s.setCounters x c).agent a = s.agent a := rfl
@[simp] theorem State.pool_setCounters (s : State) (x : QueueId) (c : QueueCounters) (p : PoolId) :
    (s.setCounters x c).pool p = s.pool p := rfl
@[simp] theorem State.now_setCounters (s : State) (x : QueueId) (c : QueueCounters) : (s.setCounters x c).now = s.now := rfl
@[simp] theorem State.queue_setReadyList (s : State) (l : List AgentId) (q : QueueId) :
    (s.setReadyList l).queue q = s.queue q := rfl
@[simp] theorem State.call_setReadyList (s : State) (l : List AgentId) (k : CallId) :
    (s.setReadyList l).call k = s.call k := rfl
@[simp] theorem State.agent_setReadyList (s : State) (l : List AgentId) (a : AgentId) :
    (s.setReadyList l).agent a = s.agent a := rfl
@[simp] theorem State.pool_setReadyList (s : State) (l : List AgentId) (p : PoolId) :
    (s.setReadyList l).pool p = s.pool p := rfl
@[simp] theorem State.now_setReadyList (s : State) (l : List AgentId) : (s.setReadyList l).now = s.now := rfl
@[simp] theorem State.queue_setJoinSeq (s : State) (n : Nat) (q : QueueId) :
    (s.setJoinSeq n).queue q = s.queue q := rfl
@[simp] theorem State.call_setJoinSeq (s : State) (n : Nat) (k : CallId) :
    (s.setJoinSeq n).call k = s.call k := rfl
@[simp] theorem State.agent_setJoinSeq (s : State) (n : Nat) (a : AgentId) :
    (s.setJoinSeq n).agent a = s.agent a := rfl
@[simp] theorem State.pool_setJoinSeq (s : State) (n : Nat) (p : PoolId) :
    (s.setJoinSeq n).pool p = s.pool p := rfl
@[simp] theorem State.now_setJoinSeq (s : State) (n : Nat) : (s.setJoinSeq n).now = s.now := rfl
@[simp] theorem State.queue_setStore (s : State) (st : ClipStore) (q : QueueId) :
    (s.setStore st).queue q = s.queue q := rfl
@[simp] theorem State.call_setStore (s : State) (st : ClipStore) (k : CallId) :
    (s.setStore st).call k = s.call k := rfl
@[simp] theorem State.agent_setStore (s : State) (st : ClipStore) (a : AgentId) :
    (s.setStore st).agent a = s.agent a := rfl
@[simp] theorem State.pool_setStore (s : State) (st : ClipStore) (p : PoolId) :
    (s.setStore st).pool p = s.pool p := rfl
@[simp] theorem State.now_setStore (s : State) (st : ClipStore) : (s.setStore st).now = s.now := rfl
@[simp] theorem State.queue_setTimeBase (s : State) (b : TimeBase) (q : QueueId) :
    (s.setTimeBase b).queue q = s.queue q := rfl
@[simp] theorem State.call_setTimeBase (s : State) (b : TimeBase) (k : CallId) :
    (s.setTimeBase b).call k = s.call k := rfl
@[simp] theorem State.agent_setTimeBase (s : State) (b : TimeBase) (a : AgentId) :
    (s.setTimeBase b).agent a = s.agent a := rfl
@[simp] theorem State.pool_setTimeBase (s : State) (b : TimeBase) (p : PoolId) :
    (s.setTimeBase b).pool p = s.pool p := rfl
@[simp] theorem State.queue_setPort (s : State) (y : Port) (q : QueueId) :
    (s.setPort y).queue q = s.queue q := rfl
@[simp] theorem State.call_setPort (s : State) (y : Port) (k : CallId) :
    (s.setPort y).call k = s.call k := rfl
@[simp] theorem State.agent_setPort (s : State) (y : Port) (a : AgentId) :
    (s.setPort y).agent a = s.agent a := rfl
@[simp] theorem State.pool_setPort (s : State) (y : Port) (p : PoolId) :
    (s.setPort y).pool p = s.pool p := rfl
@[simp] theorem State.now_setPort (s : State) (y : Port) : (s.setPort y).now = s.now := rfl
@[simp] theorem State.queue_setNotices (s : State) (n : NoticeUnit) (q : QueueId) :
    (s.setNotices n).queue q = s.queue q := rfl
@[simp] theorem State.call_setNotices (s : State) (n : NoticeUnit) (k : CallId) :
    (s.setNotices n).call k = s.call k := rfl
@[simp] theorem State.agent_setNotices (s : State) (n : NoticeUnit) (a : AgentId) :
    (s.setNotices n).agent a = s.agent a := rfl
@[simp] theorem State.pool_setNotices (s : State) (n : NoticeUnit) (p : PoolId) :
    (s.setNotices n).pool p = s.pool p := rfl
@[simp] theorem State.now_setNotices (s : State) (n : NoticeUnit) : (s.setNotices n).now = s.now := rfl
@[simp] theorem State.queue_withPending (s : State) (l : List Instr) (q : QueueId) :
    (s.withPending l).queue q = s.queue q := rfl
@[simp] theorem State.call_withPending (s : State) (l : List Instr) (k : CallId) :
    (s.withPending l).call k = s.call k := rfl
@[simp] theorem State.agent_withPending (s : State) (l : List Instr) (a : AgentId) :
    (s.withPending l).agent a = s.agent a := rfl
@[simp] theorem State.pool_withPending (s : State) (l : List Instr) (p : PoolId) :
    (s.withPending l).pool p = s.pool p := rfl
@[simp] theorem State.now_withPending (s : State) (l : List Instr) : (s.withPending l).now = s.now := rfl
@[simp] theorem State.queue_writeBus (s : State) (ws : List BusWrite) (q : QueueId) :
    (s.writeBus ws).queue q = s.queue q := rfl
@[simp] theorem State.call_writeBus (s : State) (ws : List BusWrite) (k : CallId) :
    (s.writeBus ws).call k = s.call k := rfl
@[simp] theorem State.agent_writeBus (s : State) (ws : List BusWrite) (a : AgentId) :
    (s.writeBus ws).agent a = s.agent a := rfl
@[simp] theorem State.pool_writeBus (s : State) (ws : List BusWrite) (p : PoolId) :
    (s.writeBus ws).pool p = s.pool p := rfl
@[simp] theorem State.now_writeBus (s : State) (ws : List BusWrite) : (s.writeBus ws).now = s.now := rfl
@[simp] theorem State.queue_setTreatment (s : State) (u : Treatment) (q : QueueId) :
    (s.setTreatment u).queue q = s.queue q := rfl
@[simp] theorem State.call_setTreatment (s : State) (u : Treatment) (k : CallId) :
    (s.setTreatment u).call k = s.call k := rfl
@[simp] theorem State.agent_setTreatment (s : State) (u : Treatment) (a : AgentId) :
    (s.setTreatment u).agent a = s.agent a := rfl
@[simp] theorem State.now_setTreatment (s : State) (u : Treatment) : (s.setTreatment u).now = s.now := rfl
@[simp] theorem State.queue_setFrame (s : State) (l : List Byte) (n : Nat) (q : QueueId) :
    (s.setFrame l n).queue q = s.queue q := rfl
@[simp] theorem State.call_setFrame (s : State) (l : List Byte) (n : Nat) (k : CallId) :
    (s.setFrame l n).call k = s.call k := rfl
@[simp] theorem State.agent_setFrame (s : State) (l : List Byte) (n : Nat) (a : AgentId) :
    (s.setFrame l n).agent a = s.agent a := rfl
@[simp] theorem State.pool_setFrame (s : State) (l : List Byte) (n : Nat) (p : PoolId) :
    (s.setFrame l n).pool p = s.pool p := rfl
@[simp] theorem State.now_setFrame (s : State) (l : List Byte) (n : Nat) : (s.setFrame l n).now = s.now := rfl

end Sys2Proof.Machine
end

