-- ==== Sys2Proof/Laws/Notice.lean ====
section
/-! SUPPORT. What the notice unit's operations can do: a posting and a drain touch marks, offer timers, the ring, the
NOTICE cause and host memory, and nothing else; and where a drain ends. -/

namespace Sys2Proof.Machine

/-- Only what the notice unit writes has changed between two states (R190, R191). -/
structure State.OnlyNotices (s t : State) : Prop where
  queues : t.queues = s.queues
  joinSeq : t.joinSeq = s.joinSeq
  readyList : t.readyList = s.readyList
  store : t.store = s.store
  treatment : t.treatment = s.treatment
  timeBase : t.timeBase = s.timeBase
  port : t.port = { s.port with causes := { s.port.causes with notice := t.port.causes.notice } }
  taken : t.notices.taken = s.notices.taken
  pending : t.pending = s.pending
  frame : t.frame = s.frame
  framesSent : t.framesSent = s.framesSent
  calls : ∀ k, (s.call k).SameButNotices (t.call k)
  agents : ∀ a, (s.agent a).SameButMark (t.agent a)

theorem Call.SameButNotices.refl (c : Call) : c.SameButNotices c := rfl

theorem Call.SameButNotices.trans {c d e : Call} (h : c.SameButNotices d) (h' : d.SameButNotices e) :
    c.SameButNotices e := by
  unfold Call.SameButNotices at *
  rw [h']
  rw [h]

theorem Agent.SameButMark.refl (g : Agent) : g.SameButMark g := rfl

theorem Agent.SameButMark.trans {c d e : Agent} (h : c.SameButMark d) (h' : d.SameButMark e) : c.SameButMark e := by
  unfold Agent.SameButMark at *
  rw [h']
  rw [h]

theorem State.OnlyNotices.refl (s : State) : s.OnlyNotices s :=
  ⟨rfl, rfl, rfl, rfl, rfl, rfl, rfl, rfl, rfl, rfl, rfl, fun _ => rfl, fun _ => rfl⟩

theorem State.OnlyNotices.trans {s t u : State} (h : s.OnlyNotices t) (h' : t.OnlyNotices u) : s.OnlyNotices u where
  queues := h'.queues.trans h.queues
  joinSeq := h'.joinSeq.trans h.joinSeq
  readyList := h'.readyList.trans h.readyList
  store := h'.store.trans h.store
  treatment := h'.treatment.trans h.treatment
  timeBase := h'.timeBase.trans h.timeBase
  port := by rw [h'.port, h.port]
  taken := h'.taken.trans h.taken
  pending := h'.pending.trans h.pending
  frame := h'.frame.trans h.frame
  framesSent := h'.framesSent.trans h.framesSent
  calls := fun k => (h.calls k).trans (h'.calls k)
  agents := fun a => (h.agents a).trans (h'.agents a)

/-- The mark and companion of a posted kind cleared: only what the notice unit writes. -/
theorem State.clearPosted_only (s : State) (r : RecordRef) (kind : NoticeKind) : s.OnlyNotices (s.clearPosted r kind) := by
  cases r with
  | agent a =>
    refine ⟨rfl, rfl, rfl, rfl, rfl, rfl, rfl, rfl, rfl, rfl, rfl, fun k => rfl, fun b => ?_⟩
    simp only [State.clearPosted, State.agent_setAgent]
    split
    · subst_vars; rfl
    · rfl
  | call k =>
    cases kind <;>
      refine ⟨rfl, rfl, rfl, rfl, rfl, rfl, rfl, rfl, rfl, rfl, rfl, fun j => ?_, fun b => rfl⟩ <;>
      simp only [State.clearPosted, State.call_setCall] <;> split <;> (subst_vars; rfl)

/-- One notice posted: only what the notice unit writes. -/
theorem State.post_only (s : State) (r : RecordRef) (kind : NoticeKind) : s.OnlyNotices (s.post r kind) := by
  have h1 : s.OnlyNotices (s.writeSlot (s.noticeWords r kind)) :=
    ⟨rfl, rfl, rfl, rfl, rfl, rfl, rfl, rfl, rfl, rfl, rfl, fun _ => rfl, fun _ => rfl⟩
  have h2 : ∀ t : State, t.OnlyNotices (t.setNotices { t.notices with posted := t.notices.posted + 1 }) := fun t =>
    ⟨rfl, rfl, rfl, rfl, rfl, rfl, rfl, rfl, rfl, rfl, rfl, fun _ => rfl, fun _ => rfl⟩
  have h3 : ∀ t : State, t.OnlyNotices (t.setPort { t.port with causes := { t.port.causes with notice := true } }) :=
    fun t => ⟨rfl, rfl, rfl, rfl, rfl, rfl, rfl, rfl, rfl, rfl, rfl, fun _ => rfl, fun _ => rfl⟩
  have h4 : ∀ t : State, t.OnlyNotices (t.leaveBacklog r) := fun t =>
    ⟨rfl, rfl, rfl, rfl, rfl, rfl, rfl, rfl, rfl, rfl, rfl, fun _ => rfl, fun _ => rfl⟩
  unfold State.post
  have h := ((h1.trans (h2 _)).trans (State.clearPosted_only _ r kind)).trans (h3 _)
  dsimp only
  split
  · exact h.trans (h4 _)
  · exact h

/-- One record taken from the head of the backlog: only what the notice unit writes. -/
theorem State.postHead_only (s : State) : s.OnlyNotices s.postHead := by
  unfold State.postHead
  split
  · exact .refl s
  · split
    · exact State.post_only s _ _
    · exact ⟨rfl, rfl, rfl, rfl, rfl, rfl, rfl, rfl, rfl, rfl, rfl, fun _ => rfl, fun _ => rfl⟩

/-- A drain of any length: only what the notice unit writes. -/
theorem State.drainBy_only (n : Nat) (s : State) : s.OnlyNotices (State.drainBy n s) := by
  induction n generalizing s with
  | zero => exact .refl s
  | succ n ih =>
    unfold State.drainBy
    split
    · exact .refl s
    · exact (State.postHead_only s).trans (ih _)

/-- The drain changes only what the notice unit writes. -/
theorem State.drain_only (s : State) : s.OnlyNotices s.drain := State.drainBy_only _ s

/-- With an empty backlog the drain does nothing. -/
theorem State.drain_empty (s : State) (h : s.notices.backlog = []) : s.drain = s := by
  unfold State.drain
  generalize s.ringRoom + s.notices.backlog.length = n
  cases n <;> simp [State.drainBy, h]

/-- With a full ring the drain does nothing. -/
theorem State.drain_full (s : State) (h : s.ringRoom = 0) : s.drain = s := by
  unfold State.drain
  generalize s.ringRoom + s.notices.backlog.length = n
  cases n <;> simp [State.drainBy, h]

/-- Under the law of R190 a drain does nothing: a backlog stands only behind a full ring. -/
theorem State.drain_lawful (s : State) (h : s.NoticeLaw) : s.drain = s := by
  by_cases hb : s.notices.backlog = []
  · exact s.drain_empty hb
  · exact s.drain_full (by simp [State.ringRoom, h.full hb])

end Sys2Proof.Machine
end

