-- ==== Sys2Proof/Laws/Distribution.lean ====
section
/-! SUPPORT. What the ordered lists, the choices and the offers of the distributor do: membership, the fields an offer
writes, and the induction along a sweep. -/

namespace Sys2Proof.Machine

/-! ### Ordered lists and choices -/

/-- An entry inserted in a list makes the list with it, in some order. -/
theorem insertWhere_perm {α : Type} (stop : α → Bool) (x : α) (l : List α) : (insertWhere stop x l).Perm (x :: l) := by
  induction l with
  | nil => exact .refl _
  | cons y ys ih =>
    unfold insertWhere
    split
    · exact .refl _
    · exact (ih.cons y).trans (.swap x y ys)

/-- The keyed place of a call in a list adds the call and moves none of the others out (R25). -/
theorem State.keyedInsert_perm (s : State) (boost : Nat) (k : CallId) (l : List CallId) :
    (s.keyedInsert boost k l).Perm (k :: l) := insertWhere_perm _ _ _

/-- A choice is one of the entries. -/
theorem pickFirst_mem {α : Type} (before : α → α → Bool) (l : List α) (x : α) (h : pickFirst before l = some x) :
    x ∈ l := by
  induction l generalizing x with
  | nil => simp [pickFirst] at h
  | cons y ys ih =>
    simp only [pickFirst] at h
    split at h
    · rename_i z hz
      split at h
      · cases h; exact List.mem_cons_of_mem _ (ih _ hz)
      · cases h; exact List.mem_cons_self
    · cases h; exact List.mem_cons_self

/-- Nothing is chosen only from an empty list. -/
theorem pickFirst_none {α : Type} (before : α → α → Bool) (l : List α) : pickFirst before l = none ↔ l = [] := by
  cases l with
  | nil => simp [pickFirst]
  | cons y ys =>
    simp only [pickFirst]
    split
    · split <;> simp
    · simp

/-- The agent a sweep chooses is in the ready list and qualifies (R67). -/
theorem State.chooseAgent_mem (s : State) (q : QueueId) (a : AgentId) (h : s.chooseAgent q = some a) :
    a ∈ s.readyList ∧ (s.agent a).qualifies (s.queue q) = true := by
  have := pickFirst_mem _ _ _ h
  simpa [State.qualifying] using this

/-! ### Marks -/

/-- A mark set on a call: that call's marks, and the backlog when the call was not in it (R190). -/
theorem State.markCall_eq (s : State) (k : CallId) (kind : NoticeKind) :
    s.markCall k kind =
      { s with
        calls := s.calls.set k.val { s.call k with marks := (s.call k).marks.set kind }
        notices := { s.notices with
          backlog := if .call k ∈ s.notices.backlog then s.notices.backlog
            else s.notices.backlog ++ [.call k] } } := by
  unfold State.markCall State.enterBacklog
  by_cases h : RecordRef.call k ∈ s.notices.backlog <;> simp [h, State.setCall, State.setNotices]

/-- The mark of an agent: its record, and the backlog when the agent was not in it (R190). -/
theorem State.markAgent_eq (s : State) (a : AgentId) :
    s.markAgent a =
      { s with
        agents := s.agents.set a.val { s.agent a with mark := true }
        notices := { s.notices with
          backlog := if .agent a ∈ s.notices.backlog then s.notices.backlog
            else s.notices.backlog ++ [.agent a] } } := by
  unfold State.markAgent State.enterBacklog
  by_cases h : RecordRef.agent a ∈ s.notices.backlog <;> simp [h, State.setAgent, State.setNotices]

/-! ### Offers and sweeps -/

/-- An offer, field by field: the call leaves the list and is OFFERED to the agent, which leaves the ready list; its
OFFER is marked (R75, R76). -/
theorem State.offer_eq (s : State) (q : QueueId) (k : CallId) (a : AgentId) :
    s.offer q k a =
      { s with
        queues := s.queues.set q.val { s.queue q with waiting := (s.queue q).waiting.erase k }
        calls := s.calls.set k.val
          { s.call k with
            state := .OFFERED, agent := some a, savedReadySince := some (s.agent a).readySince, offerPosted := false
            offerDeadline := none, marks := { (s.call k).marks with offer := true } }
        readyList := s.readyList.erase a
        agents := s.agents.set a.val
          { s.agent a with state := .OFFERED, call := some (s.handle k), stateEntry := s.now }
        notices := { s.notices with
          backlog := if .call k ∈ s.notices.backlog then s.notices.backlog
            else s.notices.backlog ++ [.call k] } } := by
  simp [State.offer, State.markCall_eq, State.leaveList, State.leaveReady, State.setWaiting, State.setQueue,
    State.setCall, State.setReadyList, State.setAgent, State.call, State.agent, State.queue, State.handle, State.now,
    Marks.set]

/-- What holds of a state and is kept by each offer of the head call to the chosen agent holds after the sweep
(R68). -/
theorem State.sweepBy_induct (P : State → Prop) (q : QueueId)
    (hstep : ∀ s k a rest, P s → (s.queue q).waiting = k :: rest → s.chooseAgent q = some a → P (s.offer q k a))
    (n : Nat) (s : State) (h : P s) : P (State.sweepBy q n s) := by
  induction n generalizing s with
  | zero => exact h
  | succ n ih =>
    unfold State.sweepBy
    split
    · exact h
    · rename_i k rest hw
      split
      · rename_i a ha
        exact ih _ (hstep s k a rest h hw ha)
      · exact h

/-- The same for the sweep itself. -/
theorem State.sweep_induct (P : State → Prop) (q : QueueId)
    (hstep : ∀ s k a rest, P s → (s.queue q).waiting = k :: rest → s.chooseAgent q = some a → P (s.offer q k a))
    (s : State) (h : P s) : P (s.sweep q) := by
  unfold State.sweep
  split
  · exact State.sweepBy_induct P q hstep _ s h
  · exact h

/-- A sweep of a queue that does not distribute does nothing (R68). -/
theorem State.sweep_off (s : State) (q : QueueId) (h : (s.queue q).mode.distribute = false) : s.sweep q = s := by
  simp [State.sweep, h]

/-- A sweep changes no other queue, and of its own queue the waiting list alone (R68). -/
theorem State.sweep_queue (s : State) (q r : QueueId) :
    (s.sweep q).queue r = { s.queue r with waiting := ((s.sweep q).queue r).waiting } ∧
      (r ≠ q → (s.sweep q).queue r = s.queue r) := by
  refine State.sweep_induct (fun t => t.queue r = { s.queue r with waiting := (t.queue r).waiting } ∧
    (r ≠ q → t.queue r = s.queue r)) q ?_ s ⟨rfl, fun _ => rfl⟩
  intro t k a rest h _ _
  have hq : (t.offer q k a).queue r =
      if q = r then { t.queue q with waiting := (t.queue q).waiting.erase k } else t.queue r := by
    simp [State.offer_eq, State.queue, Vector.getElem_set, Fin.ext_iff]
  by_cases hr : q = r
  · subst hr
    rw [hq, if_pos rfl]
    refine ⟨?_, fun hne => absurd rfl hne⟩
    rw [h.1]
  · rw [hq, if_neg hr]
    exact h

/-- A sweep of a queue that distributes ends with the list empty or no agent to choose (R68). -/
theorem State.sweepBy_ends (q : QueueId) (n : Nat) (s : State) (h : (s.queue q).waiting.length ≤ n) :
    ((State.sweepBy q n s).queue q).waiting = [] ∨ (State.sweepBy q n s).chooseAgent q = none := by
  induction n generalizing s with
  | zero => exact .inl (List.length_eq_zero_iff.mp (Nat.le_zero.mp h))
  | succ n ih =>
    unfold State.sweepBy
    split
    · rename_i hw; exact .inl hw
    · rename_i k rest hw
      split
      · rename_i a ha
        refine ih _ ?_
        have : ((s.offer q k a).queue q).waiting = (s.queue q).waiting.erase k := by
          simp [State.offer_eq, State.queue]
        rw [this, hw]
        rw [hw] at h
        simpa using h
      · rename_i ha; exact .inr ha

end Sys2Proof.Machine
end

