-- ==== Sys2Proof/Laws/Memory.lean ====
section
/-! SUPPORT. The clip store's memory: a read after a write, and the canonical form kept by every operation. -/

namespace Sys2Proof.Machine

/-! ### Reading after writing -/

/-- Below every listed address the memory reads the silence code. -/
theorem Memory.read_below (m : List Host.Cell) (lo a : Nat) (h : Memory.wfFrom lo m = true) (ha : a < lo) :
    Memory.read m a = Config.silence := by
  induction m generalizing lo with
  | nil => rfl
  | cons c rest ih =>
    obtain ⟨k, v⟩ := c
    simp only [Memory.wfFrom, Bool.and_eq_true, decide_eq_true_eq] at h
    simp only [Memory.read]
    rw [if_neg (by omega)]
    exact ih (k + 1) h.2 (by omega)

/-- What a canonical memory reads after one byte is written: that byte there, and every other byte as before. -/
theorem Memory.read_write (m : List Host.Cell) (lo a x : Nat) (b : Byte) (h : Memory.wfFrom lo m = true) :
    Memory.read (Memory.write m a b) x = if x = a then b else Memory.read m x := by
  induction m generalizing lo with
  | nil =>
    simp only [Memory.write]
    split
    · rename_i hb
      simp [Memory.read, hb]
    · by_cases hx : x = a
      · simp [Memory.read, hx]
      · simp [Memory.read, hx, Ne.symm hx]
  | cons c rest ih =>
    obtain ⟨k, v⟩ := c
    simp only [Memory.wfFrom, Bool.and_eq_true, decide_eq_true_eq] at h
    obtain ⟨⟨hlo, hv⟩, hr⟩ := h
    simp only [Memory.write]
    split
    · split
      · by_cases hx : x = a
        · subst hx
          simp only [Memory.read, if_true]
          rw [if_neg (by omega), Memory.read_below rest (k + 1) x hr (by omega)]
          exact (by assumption : b = Config.silence).symm
        · simp [Memory.read, hx]
      · by_cases hx : x = a
        · simp [Memory.read, hx]
        · simp [Memory.read, hx, Ne.symm hx]
    · split
      · rename_i hak
        subst hak
        split
        · by_cases hx : x = a
          · subst hx
            rw [if_pos rfl, Memory.read_below rest (x + 1) x hr (by omega)]
            exact (by assumption : b = Config.silence).symm
          · simp [Memory.read, hx, Ne.symm hx]
        · by_cases hx : x = a
          · simp [Memory.read, hx]
          · simp [Memory.read, hx, Ne.symm hx]
      · simp only [Memory.read, ih (k + 1) hr]
        by_cases hx : x = a
        · subst hx
          rw [if_pos rfl, if_pos rfl, if_neg (by omega)]
        · simp [hx]

/-- A write keeps the canonical form. -/
theorem Memory.wfFrom_write (m : List Host.Cell) (lo a : Nat) (b : Byte) (h : Memory.wfFrom lo m = true)
    (ha : lo ≤ a) : Memory.wfFrom lo (Memory.write m a b) = true := by
  induction m generalizing lo with
  | nil =>
    simp only [Memory.write]
    split <;> simp_all [Memory.wfFrom]
  | cons c rest ih =>
    obtain ⟨k, v⟩ := c
    simp only [Memory.wfFrom, Bool.and_eq_true, decide_eq_true_eq] at h
    obtain ⟨⟨hlo, hv⟩, hr⟩ := h
    have below : ∀ l : List Host.Cell, ∀ n n' : Nat, n' ≤ n → Memory.wfFrom n l = true → Memory.wfFrom n' l = true := by
      intro l n n' hn hw
      cases l with
      | nil => rfl
      | cons d _ =>
        simp only [Memory.wfFrom, Bool.and_eq_true, decide_eq_true_eq] at hw ⊢
        exact ⟨⟨by omega, hw.1.2⟩, hw.2⟩
    simp only [Memory.write]
    split
    · split
      · simp_all [Memory.wfFrom]
      · simp only [Memory.wfFrom, Bool.and_eq_true, decide_eq_true_eq]
        exact ⟨⟨ha, by assumption⟩, ⟨by omega, hv⟩, hr⟩
    · split
      · split
        · exact below rest (k + 1) lo (by omega) hr
        · simp only [Memory.wfFrom, Bool.and_eq_true, decide_eq_true_eq]
          exact ⟨⟨hlo, by assumption⟩, hr⟩
      · simp only [Memory.wfFrom, Bool.and_eq_true, decide_eq_true_eq]
        exact ⟨⟨hlo, hv⟩, ih (k + 1) hr (by omega)⟩

/-- Memory.write keeps the canonical form. -/
theorem Memory.wf_write (m : List Host.Cell) (a : Nat) (b : Byte) (h : Memory.wf m = true) :
    Memory.wf (Memory.write m a b) = true := Memory.wfFrom_write m 0 a b h (Nat.zero_le a)

/-- Memory.writeGroup keeps the canonical form. -/
theorem Memory.wf_writeGroup (m : List Host.Cell) (a : Nat) (b0 b1 b2 b3 : Byte) (h : Memory.wf m = true) :
    Memory.wf (Memory.writeGroup m a b0 b1 b2 b3) = true :=
  Memory.wf_write _ _ _ (Memory.wf_write _ _ _ (Memory.wf_write _ _ _ (Memory.wf_write _ _ _ h)))

/-- What a canonical memory reads after a group is written: the group's four bytes, and every other as before. -/
theorem Memory.read_writeGroup (m : List Host.Cell) (a x : Nat) (b0 b1 b2 b3 : Byte) (h : Memory.wf m = true) :
    Memory.read (Memory.writeGroup m a b0 b1 b2 b3) x =
      if x = a + 3 then b3 else if x = a + 2 then b2 else if x = a + 1 then b1 else if x = a then b0
      else Memory.read m x := by
  have h1 := Memory.wf_write m a b0 h
  have h2 := Memory.wf_write _ (a + 1) b1 h1
  have h3 := Memory.wf_write _ (a + 2) b2 h2
  rw [Memory.writeGroup, Memory.read_write _ 0 _ _ _ h3, Memory.read_write _ 0 _ _ _ h2,
    Memory.read_write _ 0 _ _ _ h1, Memory.read_write _ 0 _ _ _ h]

/-! ### Where the memory comes from -/

/-- The memory at reset is canonical. -/
theorem State.reset_memory_wf : Memory.wf State.reset.store.memory = true := rfl

/-- The memory after the fill is canonical and reads the silence code everywhere. -/
theorem State.filled_memory (s : State) :
    Memory.wf s.filled.store.memory = true ∧ ∀ a, Memory.read s.filled.store.memory a = Config.silence :=
  ⟨rfl, fun _ => rfl⟩

end Sys2Proof.Machine
end

