-- ==== Sys2Proof/Laws/Port.lean ====
section
/-! SUPPORT. What the shared operations of the port do: the reply of a request, its completion, and a request taken at
its owning block. -/

namespace Sys2Proof.Machine

/-- With setup present the port goes to REPLYING and nothing else changes (R177). -/
theorem State.toReply_present (s : State) (r : Reply) (h : s.port.setup.isSome = true) :
    s.toReply r = { s with port := { s.port with state := .REPLYING, reply := some r } } := by
  obtain ⟨u, hu⟩ := Option.isSome_iff_exists.mp h
  simp [State.toReply, hu, State.setPort]

/-- While setup is absent the request is completed in the same step (R180). -/
theorem State.toReply_absent (s : State) (r : Reply) (h : s.port.setup = none) :
    s.toReply r = { s with port := s.port.completed r.cls r.reason } := by
  simp [State.toReply, h, State.complete, State.setPort, Port.completed]

/-- A completion touches the port alone. -/
theorem State.complete_eq (s : State) (cls : ReplyClass) (reason : Reason) :
    s.complete cls reason = { s with port := s.port.completed cls reason } := rfl

/-- A block of a code, length and words that Table 10-8 gives passes the tests of R174 once setup is present. -/
theorem blockTest_present (b : Block) (hl : b.length ≤ 64) (hc : b.code ∈ requestCodes)
    (he : expectedLength b.code b.params = some b.length) : blockTest true b = none := by
  simp [blockTest, Nat.not_lt.mpr hl, hc, he]

/-- While setup is absent every block but SETUP's is refused NEED_SETUP (R180). -/
theorem blockTest_absent (b : Block) (hl : b.length ≤ 64) (hc : b.code ≠ setupCode) :
    blockTest false b = some .NEED_SETUP := by
  simp [blockTest, Nat.not_lt.mpr hl, hc]

/-- Out of FETCHING no request is taken. -/
theorem takeRequest_idle (b : Block) (s : State) (body : State → State × Answer) (h : s.port.state ≠ .FETCHING) :
    takeRequest b s body = .next s := by
  simp [takeRequest, fetched, h]

/-- A request whose block passes its tests is taken whole, and its reply follows. -/
theorem takeRequest_taken (b : Block) (s : State) (body : State → State × Answer) (h : s.port.state = .FETCHING)
    (ht : blockTest s.port.setup.isSome b = none) :
    takeRequest b s body = .next ((body s).1.toReply ((body s).2.reply b.code b.tag)) := by
  simp [takeRequest, fetched, h, ht]

/-- A request whose block fails a test is refused with the test's reason. -/
theorem takeRequest_refused (b : Block) (s : State) (body : State → State × Answer) (reason : Reason)
    (h : s.port.state = .FETCHING) (ht : blockTest s.port.setup.isSome b = some reason) :
    takeRequest b s body = .next (s.toReply ((Answer.refused reason []).reply b.code b.tag)) := by
  simp [takeRequest, fetched, h, ht]

/-- A request that changes nothing but answers, in a state that takes requests, leaves the state in REPLYING. -/
theorem State.toReply_replying (s : State) (cls : ReplyClass) (reason : Reason) (payload : List Word)
    (code : BitVec 8) (tag : Tag) (h : s.port.setup.isSome = true) :
    s.toReply (Answer.reply ⟨cls, reason, 0, payload, []⟩ code tag) = s.replying cls reason code tag payload := by
  rw [State.toReply_present s _ h]; rfl

end Sys2Proof.Machine
end

