-- ==== Sys2Proof/Laws/Treatment.lean ====
section
/-! SUPPORT. What the operations on players, treatment, admission, joins, wraps and slots do, each said once: the
fields they write, and that they write nothing else. -/

namespace Sys2Proof.Machine

/-! ### Players and treatment -/

/-- A release writes the call's pool player field and its player, and nothing else (R149). -/
theorem State.releasePlayer_eq (s : State) (k : CallId) :
    s.releasePlayer k =
      { s with
        calls := (s.releasePlayer k).calls
        treatment := { s.treatment with pool := (s.releasePlayer k).treatment.pool } } := by
  unfold State.releasePlayer
  split <;> rfl

/-- The calls after a release (R149). -/
theorem State.releasePlayer_call (s : State) (k j : CallId) :
    (s.releasePlayer k).call j = if k = j then { s.call k with poolPlayer := none } else s.call j := by
  unfold State.releasePlayer
  split
  · simp
  · rename_i h
    split
    · subst_vars; rw [← h]
    · rfl

/-- The players after a release (R149). -/
theorem State.releasePlayer_pool (s : State) (k : CallId) (p : PoolId) :
    (s.releasePlayer k).pool p = if (s.call k).poolPlayer = some p then .idle else s.pool p := by
  unfold State.releasePlayer
  split
  · rename_i r h
    rw [h]
    simp [Option.some.injEq]
  · rename_i h; simp [h]

/-- A player taken, field by field: PLAYING for the call, which is on its channel with its AUDIO marked (R149). -/
theorem State.takePlayer_eq (s : State) (k : CallId) (p : PoolId) (script : List ClipId) (audio : AudioState) :
    s.takePlayer k p script audio =
      { s with
        calls := s.calls.set k.val
          { s.call k with
            audio := audio, channel := some (16 + p.val), poolPlayer := some p, nextAnnouncement := none
            marks := { (s.call k).marks with audio := true } }
        treatment := { s.treatment with
          pool := s.treatment.pool.set p.val
            { state := .PLAYING, owner := some (s.handle k), script := script
              player := (seekScript s.store script 0).getD .reset } }
        notices := { s.notices with
          backlog := if .call k ∈ s.notices.backlog then s.notices.backlog
            else s.notices.backlog ++ [.call k] } } := by
  unfold State.takePlayer
  cases seekScript s.store script 0 <;>
    simp [State.markCall_eq, State.setCall, State.setPool, State.call, State.handle, Marks.set]

/-- What treatment may write: a call's audio fields and marks, the pool players, and the backlog. -/
structure State.OnlyTreatment (s t : State) (k : CallId) : Prop where
  rest : t = { s with
    calls := t.calls, treatment := { s.treatment with pool := t.treatment.pool }
    notices := { s.notices with backlog := t.notices.backlog } }
  others : ∀ j, j ≠ k → t.call j = s.call j
  call : t.call k = { s.call k with
    audio := (t.call k).audio, channel := (t.call k).channel, poolPlayer := (t.call k).poolPlayer
    nextAnnouncement := (t.call k).nextAnnouncement, marks := (t.call k).marks }

theorem State.OnlyTreatment.refl (s : State) (k : CallId) : s.OnlyTreatment s k := ⟨rfl, fun _ _ => rfl, rfl⟩

theorem State.OnlyTreatment.trans {s t u : State} {k : CallId} (h : s.OnlyTreatment t k) (h' : t.OnlyTreatment u k) :
    s.OnlyTreatment u k where
  rest := by rw [h'.rest, h.rest]
  others := fun j hj => (h'.others j hj).trans (h.others j hj)
  call := by rw [h'.call, h.call]

/-- A release is treatment. -/
theorem State.releasePlayer_only (s : State) (k : CallId) : s.OnlyTreatment (s.releasePlayer k) k where
  rest := by unfold State.releasePlayer; split <;> rfl
  others := fun j hj => by rw [State.releasePlayer_call, if_neg (Ne.symm hj)]
  call := by simp [State.releasePlayer_call]

/-- The AUDIO mark is treatment. -/
theorem State.markAudio_only (s : State) (k : CallId) : s.OnlyTreatment (s.markCall k .AUDIO) k where
  rest := by rw [State.markCall_eq]
  others := fun j hj => by
    have : k.val ≠ j.val := fun h => hj (Fin.ext h.symm)
    simp [State.markCall_eq, State.call, this]
  call := by simp [State.markCall_eq, State.call]

/-- Writing a call's audio fields is treatment. -/
theorem State.setAudio_only (s : State) (k : CallId) (audio : AudioState) (channel : Option Nat)
    (next : Option Deadline) :
    s.OnlyTreatment
      (s.setCall k { s.call k with audio := audio, channel := channel, nextAnnouncement := next }) k where
  rest := rfl
  others := fun j hj => by simp [Ne.symm hj]
  call := by simp

/-- Taking a player is treatment. -/
theorem State.takePlayer_only (s : State) (k : CallId) (p : PoolId) (script : List ClipId) (audio : AudioState) :
    s.OnlyTreatment (s.takePlayer k p script audio) k where
  rest := by rw [State.takePlayer_eq]
  others := fun j hj => by
    have : k.val ≠ j.val := fun h => hj (Fin.ext h.symm)
    simp [State.takePlayer_eq, State.call, this]
  call := by simp [State.takePlayer_eq, State.call]

/-- The beginning of a treatment touches nothing else (R151). -/
theorem State.beginTreatment_only (s : State) (k : CallId) : s.OnlyTreatment (s.beginTreatment k) k := by
  unfold State.beginTreatment
  dsimp only
  split
  · exact s.takePlayer_only _ _ _ _
  · split
    · exact (s.setAudio_only k _ _ _).trans (State.markAudio_only _ k)
    · exact s.setAudio_only k _ _ _

/-- Nor does its end at a move (R35, R39). -/
theorem State.endTreatment_only (s : State) (k : CallId) : s.OnlyTreatment (s.endTreatment k) k := by
  have h := (s.releasePlayer_only k).trans ((s.releasePlayer k).setAudio_only k .SILENT none none)
  unfold State.endTreatment
  dsimp only
  split
  · exact h.trans (State.markAudio_only _ k)
  · exact h

/-- Nor does the end of a script (R152, R155). -/
theorem State.resumeMusic_only (s : State) (k : CallId) : s.OnlyTreatment (s.resumeMusic k) k := by
  unfold State.resumeMusic
  dsimp only
  split
  · exact ((s.releasePlayer_only k).trans (State.setAudio_only _ k _ _ _)).trans (State.markAudio_only _ k)
  · exact ((s.releasePlayer_only k).trans (State.setAudio_only _ k _ _ _)).trans (State.markAudio_only _ k)

/-! ### Admission and joins -/

/-- A refusal counted changes one diverted counter and nothing else (R11). -/
theorem State.divert_eq (s : State) (q : QueueId) :
    s.divert q =
      if (s.queue q).defined then
        { s with
          queues := s.queues.set q.val
            { s.queue q with
              counters := { (s.queue q).counters with diverted := satAdd (s.queue q).counters.diverted 1 } } }
      else s := rfl

/-- A queue after a refusal counted against another or itself (R11). -/
theorem State.divert_queue (s : State) (q r : QueueId) :
    (s.divert q).queue r = { s.queue r with counters := { (s.queue r).counters with
      diverted := ((s.divert q).queue r).counters.diverted } } := by
  rw [State.divert_eq]
  split
  · by_cases h : q = r
    · subst h; simp [State.queue]
    · have : q.val ≠ r.val := fun e => h (Fin.ext e)
      simp [State.queue, this]
  · rfl

/-- Only the diverted counters of the queues have changed between two states (R9 to R11). -/
structure State.OnlyDiverted (s t : State) : Prop where
  rest : t = { s with queues := t.queues }
  queue : ∀ r, t.queue r = { s.queue r with
    counters := { (s.queue r).counters with diverted := (t.queue r).counters.diverted } }

theorem State.OnlyDiverted.refl (s : State) : s.OnlyDiverted s := ⟨rfl, fun _ => rfl⟩

theorem State.OnlyDiverted.trans {s t u : State} (h : s.OnlyDiverted t) (h' : t.OnlyDiverted u) :
    s.OnlyDiverted u where
  rest := by rw [h'.rest, h.rest]
  queue := fun r => by rw [h'.queue, h.queue]

/-- A refusal counted changes diverted counters alone (R11). -/
theorem State.divert_only (s : State) (q : QueueId) : s.OnlyDiverted (s.divert q) where
  rest := by rw [State.divert_eq]; split <;> rfl
  queue := s.divert_queue q

/-- A queue reached by a walk: counted when it is reached for the first time (R11). -/
theorem State.visit_only (s : State) (visited : List QueueId) (q : QueueId) :
    s.OnlyDiverted (if q ∈ visited then s else s.divert q) := by
  split
  · exact .refl s
  · exact s.divert_only q

/-- A walk changes diverted counters alone (R9 to R11). -/
theorem State.walkBy_only (n : Nat) (visited : List QueueId) (q : QueueId) (s : State) :
    s.OnlyDiverted (State.walkBy n visited q s).1 := by
  induction n generalizing visited q s with
  | zero =>
    unfold State.walkBy
    split
    · exact .refl s
    · exact s.visit_only visited q
  | succ n ih =>
    unfold State.walkBy
    split
    · exact .refl s
    · dsimp only
      split
      · rename_i m target hm _
        cases hm
        exact (s.visit_only visited q).trans (ih _ _ _)
      · exact s.visit_only visited q

/-- A join, field by field: entry time, join sequence, entered and the keyed place (R25 to R27). -/
theorem State.join_eq (s : State) (k : CallId) (q : QueueId) :
    s.join k q =
      let c := { s.call k with
        state := .QUEUED, queue := q
        entry := if (s.queue q).params.carryWait then (s.call k).arrival else s.now, joinSeq := s.joinSeq }
      { s with
        calls := s.calls.set k.val c
        joinSeq := satAdd s.joinSeq 1
        queues := s.queues.set q.val
          { s.queue q with
            counters := (s.queue q).counters.addEntered
            waiting := (s.setCall k c).keyedInsert (s.queue q).params.classBoost k (s.queue q).waiting } } := by
  simp [State.join, State.count, State.enterList, State.setCounters, State.setWaiting, State.setQueue, State.setCall,
    State.setJoinSeq, State.queue, State.call, State.keyedInsert]

/-! ### Queue selection -/

/-- A chosen queue is one of those it was chosen among. -/
theorem bestQueue_mem (f : QueueId → Nat) (l : List QueueId) (q : QueueId) (h : bestQueue f l = some q) : q ∈ l :=
  pickFirst_mem _ _ _ h

/-- The queue selection chooses is a candidate (R71 to R73). -/
theorem State.selectQueue_mem (s : State) (a : AgentId) (q : QueueId) (h : s.selectQueue a = some q) :
    q ∈ s.candidates a := by
  unfold State.selectQueue at h
  dsimp only at h
  split at h
  · exact bestQueue_mem _ _ _ h
  · exact List.mem_of_mem_filter (bestQueue_mem _ _ _ h)

/-- Queue selection does nothing, or offers the head call of the queue it chooses (R71). -/
theorem State.select_cases (s : State) (a : AgentId) :
    s.select a = s ∨ ∃ q k rest, s.selectQueue a = some q ∧ (s.queue q).waiting = k :: rest ∧
      s.select a = s.offer q k a := by
  unfold State.select
  split
  · rename_i q hq
    split
    · rename_i k rest hw; exact .inr ⟨q, k, rest, hq, hw, rfl⟩
    · exact .inl rfl
  · exact .inl rfl

/-- Without a candidate queue selection does nothing (R71). -/
theorem State.select_none (s : State) (a : AgentId) (h : s.candidates a = []) : s.select a = s := by
  rcases s.select_cases a with e | ⟨q, _, _, hq, _⟩
  · exact e
  · have := s.selectQueue_mem a q hq
    rw [h] at this
    cases this

/-! ### Wraps and slots -/

/-- The agent's record at the end of its wrap, before its pending is applied (R99, R49). -/
theorem State.endWrap_cases (s : State) (a : AgentId) (expiry : Bool) :
    ∃ t : State, t = ((s.countWrap (s.agent a).wrapQueue (s.agent a).wrapTalk (s.now - (s.agent a).wrapStart)).setAgent a
        { (s.agent a).leaveWrap with
          pending := .NONE, stateEntry := s.now
          counters := (s.agent a).counters.addWrap (s.agent a).wrapTalk (s.now - (s.agent a).wrapStart) }) ∧
      s.endWrap a expiry = match (s.agent a).pending with
        | .NONE => (if expiry then t.markAgent a else t).enterReady a s.now
        | .AWAY r =>
          let u := t.setAgent a { t.agent a with state := .AWAY, awayReason := r }
          if expiry then u.markAgent a else u
        | .LOGOUT =>
          let u := t.setAgent a { t.agent a with state := .LOGGED_OUT }
          if expiry then u.markAgent a else u := by
  refine ⟨_, rfl, ?_⟩
  have e : ∀ g, ((s.setAgent a g).countWrap (s.agent a).wrapQueue (s.agent a).wrapTalk (s.now - (s.agent a).wrapStart)) =
      (s.countWrap (s.agent a).wrapQueue (s.agent a).wrapTalk (s.now - (s.agent a).wrapStart)).setAgent a g :=
    fun _ => rfl
  have n : ∀ (t : State) (g : Agent), (t.setAgent a g).agent a = g := by intro t g; simp
  have m : ∀ (t : State) (g h : Agent), (t.setAgent a g).setAgent a h = t.setAgent a h := by
    intro t g h; simp [State.setAgent]
  have marked : ∀ t : State, (t.markAgent a).now = t.now := by intro t; rw [State.markAgent_eq]; rfl
  unfold State.endWrap
  dsimp only
  rw [e, n, m]
  cases expiry <;> split <;> rename_i h <;> simp only [h, Bool.false_eq_true, if_false, if_true, marked] <;> rfl

/-- The hand-over of a wrap changes one queue's counters and AHT, and nothing else (R100, R116). -/
theorem State.countWrap_eq (s : State) (q : QueueId) (t w : Nat) :
    s.countWrap q t w =
      { s with
        queues := s.queues.set q.val
          { s.queue q with counters := (s.queue q).counters.addHandled t w, aht := ahtUpdate (s.queue q).aht t w } } := by
  simp [State.countWrap, State.count, State.setCounters, State.setQueue, State.queue]

/-- A freed slot is FREE with its generation advanced, and the other calls are as they were (R30). -/
theorem State.freeCall_call (s : State) (k j : CallId) :
    (s.freeCall k).call j = if k = j then .free ((s.call k).gen + 1) else s.call j := by
  unfold State.freeCall
  dsimp only
  split <;> by_cases h : k = j <;>
    simp [h, State.releasePlayer_call, State.leaveList, State.dropMarks, State.leaveBacklog]

end Sys2Proof.Machine
end

