-- ==== Sys2Proof/Tests/Slice0.lean ====
section
/-! SUPPORT. Tests of single steps, their expected results taken from the worked cases and tables of spec/, each
named in the docstring; and, after them, for every statement a state and operands that meet its hypotheses. -/

namespace Sys2Proof.Tests

set_option maxRecDepth 100000
-- one theorem at a time, so that the evaluations do not each hold a thread's stack
set_option Elab.async false

open Sys2Proof.Machine

/-! ### Helpers -/

/-- The command answers a next state with this property. -/
def does (c : Instr) (s : State) (p : State → Bool) : Bool :=
  match exec c s with
  | .next t => p t
  | .fault _ => false
  | .refused _ => false

/-- The reply in REPLYING has this class, reason and payload. -/
def answers (t : State) (cls : ReplyClass) (reason : Reason) (payload : List Word) : Bool :=
  t.port.reply.map (fun r => (r.cls, r.reason, r.payload)) == some (cls, reason, payload)

/-- Setup present, a request being fetched, part time `n`. -/
def part (n : Nat) : State :=
  { State.reset with
    port := { State.reset.port with state := .FETCHING, setup := some ⟨0x10000, 0x20000, 16⟩ }
    timeBase := { State.reset.timeBase with time := n, highway := .LOCKED, lastSync := some 0 } }

/-- The same part, its port in another state. -/
def at' (p : PortState) (s : State) : State := { s with port := { s.port with state := p } }

/-- A defined OPEN queue of capacity 60. -/
def openQueue : Queue :=
  { Queue.reset with defined := true, mode := .OPEN, params := { QueueParams.reset with capacity := 60 } }

/-- A call waiting in a queue since `n`, of class `cls` and join sequence `seq`. -/
def waiting (q : QueueId) (n cls seq : Nat) : Call :=
  { Call.free 3 with state := .QUEUED, queue := q, arrival := n, entry := n, cls := cls, joinSeq := seq }

/-- A call offered to agent 0 since its entry at `n`, its OFFER posted with a deadline. -/
def offered (q : QueueId) (n due : Nat) : Call :=
  { waiting q n 0 0 with
    state := .OFFERED, agent := some 0, savedReadySince := some 5, offerPosted := true
    offerDeadline := some ⟨due, false⟩ }

/-- A call answered by agent 0 at `start`. -/
def connected (q : QueueId) (n start : Nat) : Call :=
  { waiting q n 0 0 with state := .CONNECTED, agent := some 0, talkStart := some start }

/-- An agent in a state, with station 2,207 and skill 0 at level 5. -/
def agentIn (st : AgentState) : Agent := { Agent.reset 0 with state := st, station := 2207, skills := [⟨0, 5⟩] }

/-- An agent serving the call of slot 0, generation 3. -/
def serving (st : AgentState) : Agent := { agentIn st with call := some ⟨0, 3⟩ }

/-! ### Well-formed operands: each check refuses -/

theorem test_refuses_long_login : (Instr.aLogin 0 0 0 0 0 (List.replicate 59 0)).wellFormed = false := by decide
theorem test_refuses_long_skills : (Instr.aSkills 0 0 (List.replicate 62 0)).wellFormed = false := by decide
theorem test_refuses_long_programme : (Instr.progDefine 0 0 0 (List.replicate 61 0)).wellFormed = false := by decide
theorem test_refuses_short_map : (Instr.sMap 0 (List.replicate 31 0)).wellFormed = false := by decide
theorem test_refuses_short_speech : (Instr.speechDefine 0 (List.replicate 30 0)).wellFormed = false := by decide
theorem test_refuses_part_of_block : (Instr.fetchRefused 0x22020005 [0, 0]).wellFormed = false := by decide
theorem test_refuses_fault_beyond_block : (Instr.fetchBusFault 64 0x22020005).wellFormed = false := by decide
theorem test_refuses_fault_beyond_reply : (Instr.replyWriteFault 256).wellFormed = false := by decide
theorem test_refuses_reset_beyond_reply : (Instr.portReset 0 256).wellFormed = false := by decide
theorem test_refuses_decoded_offset : (Instr.undecodedWrite 0xC 0).wellFormed = false := by decide

/-! ### Blocks written out from Tables 10-4 and 10-8: code in bits 31..24, length in 22..16, tag in 15..0 -/

/-- SETUP, code 0x01, 5 words, tag 7. -/
theorem test_block_setup : decodeBlock [0x01050007, 0x10000, 0x20000, 16, 7] =
    some (.setup 7 0x10000 0x20000 16 7) := by decide
/-- Q_MODE, code 0x11, 3 words, tag 0x8001: queue 9, DRAINING (2). -/
theorem test_block_q_mode : decodeBlock [0x11038001, 9, 2] = some (.qMode 0x8001 9 2) := by decide
/-- C_ARRIVE, code 0x20, 4 words, tag 0x0031: caller tag, queue, class. -/
theorem test_block_c_arrive : decodeBlock [0x20040031, 0xCAFE, 9, 1] = some (.cArrive 0x0031 0xCAFE 9 1) := by decide
/-- A_LOGIN, code 0x30, 6 + 2 words: agent, station, initial state, reason, count 2, two skill entries. -/
theorem test_block_a_login : decodeBlock [0x30080002, 12, 2207, 0, 0, 2, 0x0405, 0x0709] =
    some (.aLogin 2 12 2207 0 0 [0x0405, 0x0709]) := by decide
/-- W_EXTEND, code 0x38, 3 words: agent 210, 90 seconds. -/
theorem test_block_w_extend : decodeBlock [0x38030001, 210, 90] = some (.wExtend 1 210 90) := by decide
/-- S_LOAD, code 0x42, 5 words: segment, offset, count, source address. -/
theorem test_block_s_load : decodeBlock [0x42050009, 2, 1000, 4003, 0x00400000] =
    some (.sLoad 9 2 1000 4003 0x00400000) := by decide
/-- PROG_DEFINE, code 0x44, 4 + 1 words: programme 2, enable, count 1, clip 40. -/
theorem test_block_prog_define : decodeBlock [0x44050003, 2, 1, 1, 40] = some (.progDefine 3 2 1 [40]) := by decide
/-- A length field that is not the block's, and a code that Table 10-8 does not give. -/
theorem test_block_refused : decodeBlock [0x11048001, 9, 2] = none ∧ decodeBlock [0x99020001, 9] = none := by decide

/-! ### Figures -/

/-- Table 6-6. -/
theorem test_aht : ahtUpdate 4992 250 90 = 5048 ∧ ahtUpdate 5048 170 30 = 4817 ∧ ahtUpdate 4817 0 0 = 4217 ∧
    ahtUpdate 4217 5000 40 = 10889 ∧ ahtUpdate 10889 620 60 = 10888 ∧ ahtUpdate 10888 680 0 = 10887 ∧
    ahtUpdate 10887 680 0 = 10887 := by decide

/-- Queues 3 and 7 and agent 41 of Table 4-4, the counters giving queue 3 its lift flag. -/
def table4_4 : State :=
  let q3 : Queue := { openQueue with
    params := { openQueue.params with minLevel := 5, weight := 4, skillGain := 20, classBoost := 30 }
    counters := { QueueCounters.zero with answered := 60, answeredInTarget := 45, abandoned := 6, abandonedShort := 3 }
    waiting := [0] }
  let q7 : Queue := { openQueue with
    params := { openQueue.params with skill := 1, minLevel := 4, weight := 10, skillGain := 50, guard := 90 }
    waiting := [1] };
  ((((part 1000).setQueue 3 q3).setQueue 7 q7).setCall 0 (waiting 3 905 1 0)).setCall 1 (waiting 7 912 0 1)
    |>.setAgent 41 { agentIn .READY with skills := [⟨0, 8⟩, ⟨1, 6⟩] }

/-- Table 4-4: 1,060 against 980, queue 3 wins. -/
theorem test_selection_score : table4_4.selectQueue 41 = some 3 := by decide +kernel

/-- Section 4.3: with a head wait of 92, queue 7 is starving and is chosen. -/
theorem test_selection_starving : (table4_4.setCall 1 (waiting 7 908 0 1)).selectQueue 41 = some 7 := by decide +kernel

/-! ### Power-on, port and registers -/

/-- R185 and Table 9-2: after POWER_ON the port is INITIALISING, T is 0 and the highway in HOLDOVER. -/
theorem test_power_on : does .powerOn (part 1000) (fun t => decide (t.port.state = .INITIALISING ∧ t.now = 0 ∧
    t.timeBase.highway = .HOLDOVER ∧ t.port.setup = none)) = true := by decide

/-- R125: the fill leaves the silence code in every byte and the port IDLE. -/
theorem test_fill : does .fillComplete { State.reset with store := { ClipStore.reset with memory := [⟨9, 7⟩] } }
    (fun t => decide (t.port.state = .IDLE ∧ Memory.read t.store.memory 9 = 0x80)) = true := by decide

/-- R22, R183: the slot of a live call is freed with its generation advanced, and the agents logged out at T. -/
theorem test_port_reset : does (.portReset 1 0) (((part 1000).setCall 0 (connected 0 900 950)).setAgent 0 (serving .TALKING))
    (fun t => decide (t.call 0 = .free 4 ∧ t.agent 0 = .reset 1000 ∧ t.port.setup = none ∧ t.now = 1000)) = true := by
  decide +kernel

/-- Table 10-4a, steps 1 and 2: the first write starts the fetch, the second sets OVERRUN. -/
theorem test_reqaddr : does (.reqaddrWrite 0x400) (at' .IDLE (part 4000))
      (fun t => decide (t.port.state = .FETCHING ∧ t.port.overrun = false ∧ t.readRegister 0 = 0x400)) = true ∧
    does (.reqaddrWrite 0x800) (at' .FETCHING (part 4000))
      (fun t => decide (t.port.state = .FETCHING ∧ t.port.overrun = true ∧ t.readRegister 0 = 0)) = true := by
  decide +kernel

/-- R174: a code that Table 10-8 does not give is refused BAD_CODE, with its code and tag echoed. -/
theorem test_fetch_refused : does (.fetchRefused 0x99020031 []) (part 0) (fun t => decide (t.port.reply =
    some ⟨.REFUSED, .BAD_CODE, 0x99, 0x0031, 0, [], []⟩)) = true := by decide

/-- R175: a fault on word 0 echoes code and tag 0. -/
theorem test_fetch_bus_fault : does (.fetchBusFault 0 0x99020031) (part 0) (fun t => decide (t.port.reply =
    some ⟨.FAULT, .BUS_FAULT, 0, 0, 0, [], []⟩)) = true := by decide

/-- The port at step 3 of Table 10-4a. -/
def replyingArrive : State :=
  let s := part 4000
  { s with port := { s.port with state := .REPLYING, reply := some ⟨.DONE, .NONE, 0x20, 0x0031, 0, [77, 9, 2], []⟩ } }

/-- Table 10-4a, step 4: word 0 holds class DONE, reason none, code and tag; the residual and the payload follow. -/
theorem test_reply : does .replyComplete replyingArrive (fun t => decide (t.port.state = .IDLE ∧
    t.port.causes.reply = true ∧ t.hostWord 0x10000 = some 0x00200031 ∧ t.hostWord 0x10004 = some 0 ∧
    t.hostWord 0x10008 = some 77 ∧ t.hostWord 0x1000C = some 9 ∧ t.hostWord 0x10010 = some 2)) = true := by decide

/-- R179: a fault on the second reply word leaves word 0 as it was; PSTAT holds FAULT (3) BUS_FAULT (17) and READY. -/
theorem test_reply_fault : does (.replyWriteFault 1) replyingArrive (fun t => decide (t.hostWord 0x10000 = none ∧
    t.readRegister 4 = 0x11030006)) = true := by decide

/-- Call K of Table 11-3 (slot 30) and agents 7 and 9 after step 4: the ring is full. -/
def table11_3 (n : Nat) : State :=
  let k : Call := { waiting 11 6000 0 5 with
    state := .OFFERED, agent := some 9, moveCount := 1, savedReadySince := some 6005, audio := .MUSIC
    channel := some 4, marks := ⟨true, true, true, false⟩, movedFrom := some 10 }
  let q : Queue := { openQueue with params := { openQueue.params with programme := some 4, answerTimeout := 20 } };
  { ((((part n).setQueue 11 q).setCall 30 k).setAgent 9 { agentIn .OFFERED with call := some ⟨30, 3⟩ }).setAgent 7
      { agentIn .AWAY with awayReason := 2, mark := true } with
    notices := { posted := 40, taken := 24, backlog := [.call 30, .agent 7] } }

/-- Table 11-3, step 5: two slots are freed; slot 8 takes MOVED K from 10 to 11, slot 9 AUDIO K on channel 4. -/
theorem test_drain_two : does (.takenIndexWrite 26) (table11_3 6010) (fun t => decide (t.notices =
      { posted := 42, taken := 26, backlog := [.call 30, .agent 7] } ∧
    t.hostWord 0x20080 = some 0x040003C3 ∧ t.hostWord 0x20084 = some 10 ∧ t.hostWord 0x20088 = some 11 ∧
    t.hostWord 0x2008C = some 6010 ∧ t.hostWord 0x20090 = some 0x030003C3 ∧ t.hostWord 0x20094 = some 4 ∧
    (t.call 30).offerDeadline = none ∧ t.port.causes.notice = true)) = true := by decide +kernel

/-- Table 11-3, step 7 with steps 5 and 6 behind it: OFFER K and AGENT 7 are posted, the offer's timer starts at T. -/
theorem test_drain_rest : does (.takenIndexWrite 30)
    { (table11_3 6012) with
      calls := ((table11_3 6012).setCall 30 { (table11_3 6012).call 30 with
        marks := ⟨false, false, true, false⟩, movedFrom := none }).calls
      notices := { posted := 42, taken := 26, backlog := [.call 30, .agent 7] } }
    (fun t => decide (t.notices = { posted := 44, taken := 30, backlog := [] } ∧
      t.hostWord 0x200A0 = some 0x010003C3 ∧ t.hostWord 0x200A4 = some 9 ∧ t.hostWord 0x200A8 = some 0x000B089F ∧
      t.hostWord 0x200B0 = some 0x05000007 ∧ t.hostWord 0x200B4 = some 1 ∧ t.hostWord 0x200B8 = some 2 ∧
      (t.call 30).offerDeadline = some ⟨6032, false⟩)) = true := by decide +kernel

/-- Table 10-4a, step 5: 1 written to the REPLY bit clears it and leaves NOTICE. -/
theorem test_cause_clear : does (.causeClear 1) { part 0 with port := { (part 0).port with causes := ⟨true, true, false⟩ } }
    (fun t => decide (t.readRegister 0xC = 2)) = true := by decide

/-- R172: a write at an offset without a register changes nothing. -/
theorem test_undecoded : does (.undecodedWrite 0x10 5) (part 0) (fun t => decide (t.port = (part 0).port)) = true := by
  decide

/-- R181: a slot count of 24 is no power of two; 16 is taken, and the indices are 0. -/
theorem test_setup : does (.setup 1 0x4000 0x8000 24 7) (part 0)
      (fun t => answers t .REFUSED .BAD_VALUE []) = true ∧
    does (.setup 1 0x4000 0x8000 16 5) (part 0) (fun t => answers t .DONE .NONE [] && decide (t.port.setup =
      some ⟨0x4000, 0x8000, 16⟩ ∧ t.port.enables = ⟨true, false, true⟩ ∧ t.notices.posted = 0)) = true := by
  decide +kernel

/-! ### Queues -/

/-- The parameter words of a Q_DEFINE of queue 3 with a capacity and a class boost. -/
def defineWords (capacity boost : Word) : QDefineWords :=
  ⟨3, 0, 1, capacity, 1, 0, boost, 0, 0, 20, 0, 0, 0xFFFFFFFF, 0, 0, 20, 800, 0, 0xFFFFFFFF, 0xFFFFFFFF, 0, 0, 312⟩

/-- R13, R186: a capacity of 100,000 is clamped to 2,048, and bit 4 of the mask names request word 4; the AHT is
seeded with 16 × 312. -/
theorem test_q_define_clamps : does (.qDefine 1 (defineWords 100000 0)) (part 0) (fun t =>
    answers t .PARTIAL .CLAMPED [16] && decide ((t.queue 3).params.capacity = 2048 ∧ (t.queue 3).aht = 4992 ∧
      (t.queue 3).mode = .SHUT)) = true := by decide +kernel

/-- The calls A, B, C, D of Table 1-7 in slots 0 to 3, waiting in queue 3 in STAGING. -/
def table1_7 : State :=
  let s := (part 1000).setQueue 3 { openQueue with mode := .STAGING, waiting := [0, 1, 2, 3] };
  (((s.setCall 0 (waiting 3 900 0 11)).setCall 1 (waiting 3 930 2 14)).setCall 2 (waiting 3 950 1 17)).setCall 3
    (waiting 3 970 3 20)

/-- Table 1-7: a boost of 60 gives D, B, C, A, and one of 35 gives B, D, A, C. -/
theorem test_q_define_resorts :
    does (.qDefine 1 (defineWords 60 60)) table1_7 (fun t => (t.queue 3).waiting == [3, 1, 2, 0]) = true ∧
    does (.qDefine 1 (defineWords 60 35)) table1_7 (fun t => (t.queue 3).waiting == [1, 3, 0, 2]) = true := by
  decide +kernel

/-- R6: the reply carries the mode before. -/
theorem test_q_mode : does (.qMode 1 3 3) table1_7 (fun t => answers t .DONE .NONE [1] &&
    (t.queue 3).mode == .SHUT) = true := by decide +kernel

/-- Queue 3 of Tables 6-4, 6-7 and 6-10: slot 0 is the head and slot 6 call K, OFFERED to agent 41. -/
def table6_10 : State :=
  let q : Queue := { openQueue with
    params := { openQueue.params with minLevel := 5, guard := 90, serviceTarget := 60, serviceGoal := 800 }
    aht := 4992, counters := ⟨74, 60, 45, 6, 3, 1, 0, 4, 1410, 58, 16240, 2900⟩, waiting := [0, 1, 2, 3, 4, 5] }
  let s := (List.range 6).foldl (fun s i => s.setCall (Fin.ofNat 2048 i) (waiting 3 (11930 + i) 1 i))
    ((part 12000).setQueue 3 q)
  let agents : List (AgentId × AgentState × Nat) := [(41, .OFFERED, 8), (55, .TALKING, 5), (60, .WRAP, 6),
    (61, .AWAY, 9), (62, .TALKING, 7), (63, .TALKING, 4), (64, .WRAP, 5), (70, .LOGGED_OUT, 9)]
  let s := agents.foldl (fun s x => s.setAgent x.1 { agentIn x.2.1 with skills := [⟨0, x.2.2⟩] }) s;
  s.setCall 6 { offered 3 11964 12010 with agent := some 41 }

/-- Table 6-10. -/
theorem test_q_query : does (.qQuery 1 3) table6_10 (fun t =>
    answers t .DONE .NONE [0, 6, 1, 70, 0, 714, 63, 1, 4992, 5, 437]) = true := by decide +kernel

/-- Table 6-4: the reply holds the first column and the 7 calls present; entered becomes 7 and the others 0. -/
theorem test_q_counters : does (.qCounters 1 3 1) table6_10 (fun t =>
    answers t .DONE .NONE [74, 60, 45, 6, 3, 1, 0, 4, 1410, 58, 16240, 2900, 7] &&
      decide ((t.queue 3).counters = ⟨7, 0, 0, 0, 0, 0, 0, 0, 0, 0, 0, 0⟩)) = true := by decide +kernel

/-- Queue 3 of Table 2-9 in STAGING, its calls P, Q, R, S, U, V in slots 0 to 5. -/
def table2_9 : State :=
  let q : Queue := { openQueue with params := { openQueue.params with classBoost := 60 }, waiting := [0, 1, 2, 3, 4, 5] }
  let calls : List (Nat × Nat) := [(9640, 2), (9560, 0), (9640, 1), (9800, 3), (9955, 2), (9900, 0)];
  calls.zipIdx.foldl (fun s c => s.setCall (Fin.ofNat 2048 c.2) (waiting 3 c.1.1 c.1.2 c.2))
    ((part 10000).setQueue 3 q)

/-- Section 2.9.2: start 2, maximum 5, minimum wait 60 return Q, R, S, with depth 6 and residual 2; and the last row of
Table 2-10. -/
theorem test_q_list : does (.qList 1 3 2 5 60) table2_9 (fun t => decide (t.port.reply = some
      ⟨.DONE, .NONE, 0x13, 1, 2, [6, 3], [35, 0, 440, 67, 0, 65896, 99, 0, 196808]⟩)) = true ∧
    does (.qList 1 3 0 3 300) table2_9 (fun t => decide (t.port.reply = some
      ⟨.PARTIAL, .CLAMPED, 0x13, 1, 0, [6, 3], [3, 0, 131432, 35, 0, 440, 67, 0, 65896]⟩)) = true := by decide +kernel

/-! ### Calls -/

/-- The queues of Table 1-4; the forty calls of queue 10 are given by a capacity of 0. -/
def table1_4 : State :=
  let q (m : QMode) (cap : Nat) (next : QueueId) (d : Nat) : Queue := { openQueue with
    mode := m, params := { openQueue.params with capacity := cap, overflowTarget := some next }
    counters := { QueueCounters.zero with diverted := d } };
  (((part 100).setQueue 10 (q .OPEN 0 11 312)).setQueue 11 (q .DRAINING 30 12 15)).setQueue 12 (q .OPEN 60 10 0)

/-- Table 1-4: queues 10 and 11 refuse and are counted, queue 12 accepts. -/
theorem test_c_arrive : does (.cArrive 1 0xCAFE 10 0) table1_4 (fun t => answers t .DONE .NONE [0, 12, 1] &&
    decide ((t.queue 10).counters.diverted = 313 ∧ (t.queue 11).counters.diverted = 16 ∧
      (t.queue 12).counters.entered = 1 ∧ (t.queue 12).waiting = [0])) = true := by decide +kernel

/-- Table 1-5: the move from queue 12 to queue 10 ends DIVERTED after four hops. -/
theorem test_c_move_diverted : does (.cMove 1 3 10)
    ((table1_4.setWaiting 12 [0]).setCall 0 (waiting 12 100 0 0)) (fun t =>
      answers t .REFUSED .DIVERTED [] && decide ((t.queue 10).counters.diverted = 313 ∧
        (t.queue 11).counters.diverted = 16 ∧ (t.queue 12).counters.diverted = 0 ∧
        t.call 0 = waiting 12 100 0 0)) = true := by decide +kernel

/-- Section 2.9.1, T = 5,400: a transfer to queue 22, which does not carry wait; agent 0 wraps for queue 21. -/
theorem test_c_move_transfer : does (.cMove 1 3 22)
    (((((part 5400).setQueue 21 { openQueue with params := { openQueue.params with wrapBase := 30 } }).setQueue 22
      openQueue).setCall 0 { connected 21 5000 5214 with moveCount := 1 }).setAgent 0 (serving .TALKING))
    (fun t => answers t .DONE .NONE [22, 1] && decide ((t.call 0).entry = 5400 ∧ (t.call 0).moveCount = 2 ∧
      (t.agent 0).state = .WRAP ∧ (t.agent 0).wrapQueue = 21 ∧ (t.agent 0).wrapTalk = 186)) = true := by
  decide +kernel

/-- Table 6-4: the answer of K after 40 seconds counts answered, in-target and 40 seconds. -/
theorem test_c_answer : does (.cAnswer 1 3 0)
    ((((part 12004).setQueue 3 { openQueue with params := { openQueue.params with serviceTarget := 60 } }).setCall 0
      (offered 3 11964 12010)).setAgent 0 (serving .OFFERED))
    (fun t => answers t .DONE .NONE [3, 40, 1] && decide ((t.queue 3).counters.answered = 1 ∧
      (t.queue 3).counters.answeredInTarget = 1 ∧ (t.queue 3).counters.answerWaitTotal = 40 ∧
      (t.agent 0).state = .TALKING ∧ (t.call 0).talkStart = some 12004)) = true := by decide +kernel

/-- R80: the answer of another agent is TOO_LATE. -/
theorem test_c_answer_other : does (.cAnswer 1 3 1)
    (((part 12004).setCall 0 (offered 3 11964 12010)).setAgent 0 (serving .OFFERED))
    (fun t => answers t .REFUSED .TOO_LATE []) = true := by decide +kernel

/-- Section 2.9.1, T = 5,460: the abandonment after 60 seconds frees the slot with its generation advanced. -/
theorem test_c_end : does (.cEnd 1 3)
    (((part 5460).setQueue 22 { openQueue with
        params := { openQueue.params with shortAbandon := 10 }, waiting := [0] }).setCall 0 (waiting 22 5400 0 0))
    (fun t => answers t .DONE .NONE [1, 60] && decide (t.call 0 = .free 4 ∧
      (t.queue 22).counters.abandoned = 1 ∧ (t.queue 22).counters.abandonedShort = 0 ∧ (t.queue 22).waiting = [])) =
    true := by decide +kernel

/-- Section 5.4.1, step 2: the completion enters WRAP with deadline 8,480 and limit 8,600. -/
theorem test_c_end_completion : does (.cEnd 1 3)
    ((((part 8420).setQueue 14 { openQueue with
        params := { openQueue.params with wrapBase := 60, wrapExtensionMax := 120 } }).setCall 0
      (connected 14 7990 8000)).setAgent 0 { serving .TALKING with pending := .AWAY 6 })
    (fun t => answers t .DONE .NONE [3, 0, 420] && decide ((t.agent 0).state = .WRAP ∧ (t.agent 0).wrapTalk = 420 ∧
      (t.agent 0).wrapDeadline = ⟨8480, false⟩ ∧ (t.agent 0).wrapLimit = 8600 ∧ (t.agent 0).pending = .AWAY 6)) =
    true := by decide +kernel

/-- R25, R37: with a boost of 60, class 3 puts call C of Table 1-7 (key 770) at the head. -/
theorem test_c_class : does (.cClass 1 67 9) (table1_7.setQueue 3 { table1_7.queue 3 with
      params := { openQueue.params with classBoost := 60 }, waiting := [3, 1, 2, 0] })
    (fun t => answers t .PARTIAL .CLAMPED [3, 1] && (t.queue 3).waiting == [2, 3, 1, 0]) = true := by decide +kernel

/-- R42: the items of call C of Table 1-7, waiting third with a wait of 50. -/
theorem test_c_query : does (.cQuery 1 67) table1_7 (fun t =>
    answers t .DONE .NONE [1, 3, 3, 50, 1, 0xFFFFFFFF, 0, 0xFFFFFFFF, 0, 0, 0, 0]) = true := by decide +kernel

/-! ### Agents and wraps -/

/-- R55: the login stores station and skills and enters READY; a held station is refused. -/
theorem test_a_login : does (.aLogin 1 12 2207 0 0 [0x0405, 0x0709]) (part 4000) (fun t =>
      answers t .DONE .NONE [2] && decide ((t.agent 12).skills = [⟨4, 5⟩, ⟨7, 9⟩] ∧ (t.agent 12).readySince = 4000 ∧
        t.readyList = [12])) = true ∧
    does (.aLogin 1 12 2207 0 0 []) ((part 4000).setAgent 3 (agentIn .AWAY)) (fun t =>
      answers t .REFUSED .STATION_IN_USE []) = true := by decide +kernel

/-- R60: a logout in TALKING becomes pending. -/
theorem test_a_logout : does (.aLogout 1 0) ((part 0).setAgent 0 (serving .TALKING)) (fun t =>
    answers t .DONE .NONE [4, 4, 2]) = true := by decide +kernel

/-- Section 5.4.1, step 1: A_SET AWAY 6 with expected set TALKING (bit 4) becomes pending; READY (bit 2) alone is a
MISMATCH. -/
theorem test_a_set : does (.aSet 1 0 1 6 16) ((part 8300).setAgent 0 (serving .TALKING)) (fun t =>
      answers t .DONE .NONE [4, 4, 0x601] && decide ((t.agent 0).pending = .AWAY 6)) = true ∧
    does (.aSet 1 0 1 6 4) ((part 8300).setAgent 0 (serving .TALKING)) (fun t =>
      decide (t.port.reply.map (·.reason) = some .MISMATCH)) = true := by decide +kernel

/-- R62: a skill list is replaced; one with a level of 0 is refused. -/
theorem test_a_skills : does (.aSkills 1 0 [0x0309]) ((part 0).setAgent 0 (agentIn .AWAY)) (fun t =>
      answers t .DONE .NONE [1, 1] && decide ((t.agent 0).skills = [⟨3, 9⟩])) = true ∧
    does (.aSkills 1 0 [0x0300]) ((part 0).setAgent 0 (agentIn .AWAY)) (fun t =>
      answers t .REFUSED .BAD_VALUE []) = true := by decide +kernel

/-- Agent 210 of section 5.4.1 after step 3. -/
def agent210 : Agent :=
  { agentIn .WRAP with
    pending := .AWAY 6, wrapQueue := 14, wrapTalk := 420, wrapStart := 8420, wrapDeadline := ⟨8480, false⟩
    wrapLimit := 8600, stateEntry := 8420, counters := ⟨37, 9120, 2050, 1300, 2⟩ }

/-- R63: the items of agent 210 at T = 8,470. -/
theorem test_a_query : does (.aQuery 1 210) ((part 8470).setAgent 210 agent210) (fun t =>
    answers t .DONE .NONE [5, 2207, 1, 5, 0, 0, 0, 0xFFFFFFFF, 0x601, 50, 14, 8420, 8480, 8600, 37, 9120, 2050, 1300, 2]) =
    true := by decide +kernel

/-- Section 5.4.1, step 6. -/
theorem test_a_counters : does (.aCounters 1 210 1) ((part 8540).setAgent 210 agent210) (fun t =>
    answers t .DONE .NONE [37, 9120, 2050, 1300, 2, 5, 120] && (t.agent 210).counters == .zero) = true := by
  decide +kernel

/-- Section 5.4.1, steps 4 and 5. -/
theorem test_w_extend : does (.wExtend 1 210 90) ((part 8470).setAgent 210 agent210) (fun t =>
      answers t .DONE .NONE [8420, 8570, 8600, 90, 30]) = true ∧
    does (.wExtend 1 210 60) ((part 8500).setAgent 210 { agent210 with wrapDeadline := ⟨8570, false⟩ }) (fun t =>
      answers t .PARTIAL .CLAMPED [8420, 8600, 8600, 30, 0] && (t.agent 210).wrapDeadline.due == 8600) = true := by
  decide +kernel

/-- R97 at T = 8,550: w is 130 and the pending AWAY 6 is applied. -/
theorem test_w_end : does (.wEnd 1 210) ((part 8550).setAgent 210 agent210) (fun t =>
    answers t .DONE .NONE [420, 130, 0x601, 1] && decide ((t.agent 210).state = .AWAY ∧
      (t.agent 210).awayReason = 6 ∧ (t.agent 210).mark = false ∧ (t.queue 14).counters.wrapTotal = 130)) = true := by
  decide +kernel

/-- Section 5.4.1, step 7, its last column read from Table 5-5; the AGENT notice reports AWAY (1), reason 6. -/
theorem test_wrap_expiry : does (.wrapExpiry 210) ((part 8600).setAgent 210
      { agent210 with wrapDeadline := ⟨8600, false⟩, counters := .zero })
    (fun t => decide ((t.agent 210).state = .AWAY ∧ (t.agent 210).stateEntry = 8600 ∧
      (t.agent 210).counters = ⟨1, 420, 180, 0, 0⟩ ∧ (t.queue 14).counters.handled = 1 ∧
      t.hostWord 0x20000 = some 0x050000D2 ∧ t.hostWord 0x20008 = some 6)) = true := by decide +kernel

/-! ### Clip store and treatment -/

/-- The words of a boundary table that holds B(0) = B(1) = 64, B(2) = 576, B(3) = `b3` and `rest` from B(4) on. -/
def mapWords (b3 rest : Nat) : List Word :=
  word (64 + 65536 * 64) :: word (576 + 65536 * b3) :: List.replicate 30 (word (rest + 65536 * rest))

/-- The store of Table 7-2, with clip 17 of Table 7-4 and clip 40 of section 7.8.2. -/
def library (n : Nat) : State :=
  let s := part n
  let bounds := Vector.ofFn fun i : Fin 64 => if i.val < 2 then 64 else if i.val = 2 then 576 else 1600
  let attrs := ((Vector.replicate 64 (⟨false, false⟩ : SegmentAttr)).set 0 ⟨true, false⟩).set 2 ⟨true, true⟩
  let clips := ((Vector.replicate 256 none).set 17 (some ⟨2, 520000, 8000⟩)).set 40 (some ⟨3, 0, 240000⟩);
  { s with store := { s.store with bounds := bounds, attrs := attrs.set 3 ⟨true, true⟩, clips := clips } }

/-- Section 7.4.1: moving B(3) is refused STATE naming segment 3, and Table 7-3 changes 60 segments. -/
theorem test_s_map : does (.sMap 1 (mapWords 2112 2112)) (library 0) (fun t => answers t .REFUSED .STATE [3]) = true ∧
    does (.sMap 1 (mapWords 1600 2112)) (library 0) (fun t => answers t .DONE .NONE [60] &&
      t.store.bounds[4] == 2112 && t.store.bounds[3] == 1600) = true := by decide +kernel

/-- R132: the setting goes from PLAY+LOAD (3) to LOAD-only (1). -/
theorem test_s_attr : does (.sAttr 1 2 1) (library 0) (fun t => answers t .DONE .NONE [3] &&
    decide (t.store.attr 2 = ⟨false, true⟩)) = true := by decide +kernel

/-- Table 7-7, rows 2, 3 and 5: the load that goes to LOADING, its count used, clamped or not, and its groups. -/
theorem test_s_load : does (.sLoad 1 2 0 100000 0x00400000) (library 0) (fun t => decide (t.store.load =
      some ⟨65536, 0, 65536, true, 16384, 0, 0x00400000, 1⟩ ∧ t.port.state = .LOADING)) = true ∧
    does (.sLoad 1 2 1000 4003 0x00400000) (library 0) (fun t => decide (t.store.load =
      some ⟨65536, 1000, 4003, false, 1000, 0, 0x00400000, 1⟩)) = true ∧
    does (.sLoad 1 2 522240 70001 0x00400000) (library 0) (fun t => decide (t.store.load =
      some ⟨65536, 522240, 65536, true, 512, 0, 0x00400000, 1⟩)) = true := by decide +kernel

/-- Table 7-7, its last four rows. -/
theorem test_s_load_short : does (.sLoad 1 2 0 0 0x00400000) (library 0) (fun t =>
      answers t .DONE .NONE [0, 0, 0]) = true ∧
    does (.sLoad 1 2 8 2 0x00400000) (library 0) (fun t => answers t .PARTIAL .TRUNCATED [2, 0, 8]) = true ∧
    does (.sLoad 1 2 524288 64 0x00400000) (library 0) (fun t => answers t .REFUSED .BAD_VALUE []) = true ∧
    does (.sLoad 1 2 2 64 0x00400000) (library 0) (fun t => answers t .REFUSED .BAD_VALUE []) = true := by
  decide +kernel

/-- The store of Table 7-2 with a load in progress. -/
def loading (l : Load) : State :=
  let s := library 0
  { s with store := { s.store with load := some l }, port := { s.port with state := .LOADING } }

/-- R137: group 0 at store address 65,536 takes its bytes in host order, fetched from the source address. -/
theorem test_load_group : does (.loadGroupWrite 1 2 3 4) (loading ⟨65536, 0, 16, false, 4, 0, 0x400000, 1⟩)
    (fun t => decide (Memory.read t.store.memory 65536 = 1 ∧ Memory.read t.store.memory 65539 = 4 ∧
      Memory.read t.store.memory 65540 = 0x80 ∧ t.loadReads = [0x400000])) = true := by decide

/-- Table 7-7, rows 3 and 5, at their completion. -/
theorem test_load_complete : does .loadComplete (loading ⟨65536, 1000, 4003, false, 1000, 1000, 0x400000, 1⟩)
      (fun t => answers t .PARTIAL .TRUNCATED [4003, 4000, 5000] &&
        decide (t.port.reply.map (·.residual) = some 3)) = true ∧
    does .loadComplete (loading ⟨65536, 522240, 65536, true, 512, 512, 0x400000, 1⟩)
      (fun t => answers t .PARTIAL .TRUNCATED [65536, 2048, 524288] &&
        decide (t.port.reply.map (·.residual) = some 63488)) = true := by decide

/-- Section 7.8.1, the tenth request: a fault on group 1,500. -/
theorem test_load_fault : does .loadBusFault (loading ⟨65536, 0, 16384, false, 4096, 1500, 0x400000, 1⟩)
    (fun t => answers t .FAULT .BUS_FAULT [16384, 6000, 6000] &&
      decide (t.port.reply.map (·.residual) = some 10384 ∧ t.loadReads = [0x400000 + 6000])) = true := by decide

/-- Table 7-4: clip 17 sounds 4,288 of its samples. -/
theorem test_clip_define : does (.clipDefine 1 17 2 520000 8000) (library 0) (fun t =>
    answers t .DONE .NONE [2, 520000, 8000, 524288, 4288]) = true := by decide +kernel

/-- R147, R148: programme 2 restarts at clip 40, its first clip that is not EMPTY. -/
theorem test_prog_define : does (.progDefine 1 2 1 [5, 40]) (library 0) (fun t => answers t .DONE .NONE [0, 0] &&
    decide ((t.treatment.broadcast[2]).clipIndex = 1 ∧ (t.treatment.broadcast[2]).clip =
      some ⟨3, 589824, 1048576, 0, 240000⟩)) = true := by decide +kernel

/-- R158: 30 entries absent and one present. -/
theorem test_speech_define : does (.speechDefine 1 (150 :: List.replicate 30 0xFFFFFFFF)) (part 0) (fun t =>
    answers t .DONE .NONE [1] && decide (t.treatment.speech[0] = some 150 ∧ t.treatment.speech[30] = none)) = true := by
  decide +kernel

/-- Call N and queue 12 of section 8.8 at T = 7,051: five calls wait ahead of N, in slot 5, and four agents work. -/
def table8_11 (n : Nat) : State :=
  let s := part n
  let clips := [(150, 12000), (126, 4000), (151, 8000), (152, 12000), (125, 4000), (153, 12000)].foldl
    (fun (v : Vector (Option ClipEntry) 256) x => v.set! x.1 (some ⟨0, 0, x.2⟩)) (Vector.replicate 256 none)
  let speech := [(27, 150), (5, 126), (28, 151), (29, 152), (4, 125), (30, 153)].foldl
    (fun (v : Vector (Option ClipId) 31) x => v.set! x.1 (some x.2)) (Vector.replicate 31 none)
  let s : State := { s with
    store := { s.store with clips := clips }, treatment := { s.treatment with speech := speech } }
  let q : Queue := { openQueue with
    mode := .STAGING, aht := 2880, waiting := [0, 1, 2, 3, 4, 5]
    params := { openQueue.params with programme := some 3, announceMode := .BOTH, announceInterval := 45 } }
  let s := (List.range 4).foldl (fun s i => s.setAgent (Fin.ofNat 1024 i) (agentIn .TALKING)) (s.setQueue 12 q)
  let s := (List.range 2).foldl (fun s i => s.setPool (Fin.ofNat 32 i) { PoolPlayer.idle with state := .PLAYING }) s
  let s := (List.range 5).foldl (fun s i => s.setCall (Fin.ofNat 2048 i) (waiting 12 6900 0 i)) s;
  s.setCall 5 { waiting 12 7000 0 5 with
    audio := .MUSIC, channel := some 3, nextAnnouncement := some ⟨7051, false⟩ }

/-- Section 8.8, T = 7,051: player 2 takes the script of six clips, and N goes to ANNOUNCE on channel 18. -/
theorem test_announcement : does (.announcementDue 5) (table8_11 7051) (fun t =>
    decide ((t.call 5).audio = .ANNOUNCE ∧ (t.call 5).channel = some 18 ∧ (t.call 5).nextAnnouncement = none ∧
      (t.pool 2).script = [150, 126, 151, 152, 125, 153])) = true := by decide +kernel

/-- Section 8.8, T = 7,102: with no IDLE player the announcement is skipped to 7,147. -/
theorem test_announcement_skipped : does (.announcementDue 5)
    (let s := (List.range 32).foldl (fun s i => s.setPool (Fin.ofNat 32 i) { PoolPlayer.idle with state := .PLAYING })
      (table8_11 7102)
     s.setCall 5 { s.call 5 with nextAnnouncement := some ⟨7102, false⟩ })
    (fun t => decide ((t.call 5).audio = .MUSIC ∧ (t.call 5).nextAnnouncement = some ⟨7147, false⟩)) = true := by
  decide +kernel

/-! ### Highway, time base and timers -/

/-- R163, Table 9-1: a frame of 64 silent samples, and one period counted. -/
theorem test_frame : does (.frameSync 512) (part 20000) (fun t => decide (t.frame = List.replicate 64 0x80 ∧
    t.timeBase.periodCount = 1 ∧ t.timeBase.lastSync = some 512 ∧ t.serialData = some t.frame)) = true := by decide +kernel

/-- Table 7-4: sample 4,287 of clip 17 is the last of segment 2, and sample 4,288 silence. -/
theorem test_sample : ((((library 0).store.taken 0 ⟨2, 520000, 8000⟩).sample
      { (library 0).store with memory := [⟨585536, 0x55⟩] }).1 = 0x55) ∧
    (({ (library 0).store.taken 0 ⟨2, 520000, 8000⟩ with position := 4287 }.sample
      { (library 0).store with memory := [⟨589823, 0x66⟩] }).1 = 0x66) ∧
    (({ (library 0).store.taken 0 ⟨2, 520000, 8000⟩ with position := 4288 }.sample
      { (library 0).store with memory := [⟨589824, 0x77⟩] }).1 = 0x80) := by decide +kernel

/-- The time base with a highway state, a period count, T and a run. -/
def clock (h : HighwayState) (n t : Nat) (run : Option Nat) : State :=
  { part t with timeBase := ⟨h, n, t, run, some 0⟩ }

/-- Table 9-4: at the entry to HOLDOVER the count goes from 4,000 to 4,015 and CLOCK is set. -/
theorem test_holdover : does .holdoverEntry (clock .LOCKED 4000 20000 none) (fun t =>
    decide (t.timeBase.highway = .HOLDOVER ∧ t.timeBase.periodCount = 4015 ∧ t.port.causes.clock = true ∧
      t.serialData = none)) = true := by decide

/-- R168: the 8,000th period of the second makes T 20,001 at the boundary. -/
theorem test_second : does .oscillatorPeriod (clock .HOLDOVER 7999 20000 none) (fun t =>
      decide (t.timeBase.periodCount = 8000)) = true ∧
    does .secondBoundary (clock .HOLDOVER 8000 20000 none) (fun t => decide (t.timeBase.periodCount = 0 ∧
      t.now = 20001)) = true ∧
    does .secondBoundary (clock .HOLDOVER 8000 4294967295 none) (fun t => decide (t.now = 4294967295)) = true := by
  decide

/-- R165: the 17th frame sync of a regular run locks; a timeout sets the run back to waiting. -/
theorem test_relock : does (.holdoverFrameSync 512) (clock .HOLDOVER 0 20003 (some 15)) (fun t =>
      decide (t.timeBase.highway = .LOCKED ∧ t.port.causes.clock = true ∧ t.framesSent = 1)) = true ∧
    does .runTimeout (clock .HOLDOVER 0 20003 (some 9)) (fun t => decide (t.timeBase.run = none)) = true := by
  decide +kernel

/-- Table 9-4, T = 20,002: the offer expires, the agent goes AWAY with reason 15 and K returns to its queue. -/
theorem test_offer_expiry : does (.offerExpiry 0)
    (((part 20002).setQueue 3 openQueue |>.setCall 0 (offered 3 19990 20002)).setAgent 0 (serving .OFFERED))
    (fun t => decide ((t.agent 0).state = .AWAY ∧ (t.agent 0).awayReason = 15 ∧ (t.agent 0).counters.ronaCount = 1 ∧
      (t.call 0).state = .QUEUED ∧ (t.queue 3).waiting = [0] ∧ t.notices.posted = 2)) = true := by decide +kernel

/-- Section 2.9.1, T = 5,120: the overflow move to queue 21, which carries wait. -/
theorem test_overflow_expiry : does (.overflowExpiry 0)
    ((((part 5120).setQueue 20 { openQueue with
        params := { openQueue.params with overflowTarget := some 21, overflowAfter := 120 }, waiting := [0] }).setQueue 21
      { openQueue with params := { openQueue.params with carryWait := true } }).setCall 0
        { waiting 20 5000 0 0 with audio := .SILENT })
    (fun t => decide ((t.call 0).queue = 21 ∧ (t.call 0).entry = 5000 ∧ (t.call 0).moveCount = 1 ∧
      (t.queue 20).counters.movedOut = 1 ∧ (t.queue 20).counters.overflowOut = 1 ∧ (t.queue 21).waiting = [0] ∧
      t.hostWord 0x20000 = some 0x04000003)) = true := by decide +kernel

/-! ### Scenes: states of one call, one agent and two queues, and the laws they meet -/

/-- No queue, call or agent in use. -/
def cleared (base : State) : State :=
  { base with
    queues := Vector.replicate 64 .reset, calls := Vector.replicate 2048 (.free 0)
    agents := Vector.replicate 1024 (.reset 0), readyList := [] }

/-- Call slot 0, agent 0 and queues 0 and 1 in use, all others as at reset. -/
def scene (base : State) (c : Call) (g : Agent) (r r' : Queue) : State :=
  (((((cleared base).setQueue 1 r').setQueue 0 r).setCall 0 c).setAgent 0 g).setReadyList
    (if g.state = .READY then [0] else [])

section
variable (base : State) (c : Call) (g : Agent) (r r' : Queue)

theorem cleared_call (k : CallId) : (cleared base).call k = .free 0 := by
  simp only [State.call, cleared, Vector.getElem_replicate]

theorem cleared_agent (a : AgentId) : (cleared base).agent a = .reset 0 := by
  simp only [State.agent, cleared, Vector.getElem_replicate]

theorem cleared_queue (q : QueueId) : (cleared base).queue q = .reset := by
  simp only [State.queue, cleared, Vector.getElem_replicate]

theorem scene_call (k : CallId) : (scene base c g r r').call k = if k = 0 then c else .free 0 := by
  simp only [scene, State.call_setReadyList, State.call_setAgent, State.call_setCall, State.call_setQueue,
    cleared_call, eq_comm (a := k)]

theorem scene_agent (a : AgentId) : (scene base c g r r').agent a = if a = 0 then g else .reset 0 := by
  simp only [scene, State.agent_setReadyList, State.agent_setAgent, State.agent_setCall, State.agent_setQueue,
    cleared_agent, eq_comm (a := a)]

theorem scene_queue (q : QueueId) :
    (scene base c g r r').queue q = if q = 0 then r else if q = 1 then r' else .reset := by
  simp only [scene, State.queue_setReadyList, State.queue_setAgent, State.queue_setCall, State.queue_setQueue,
    cleared_queue, eq_comm (a := q)]

theorem scene_ready : (scene base c g r r').readyList = if g.state = .READY then [0] else [] := rfl

/-- The records of a scene agree when its lists hold the QUEUED call, and call and agent name each other. -/
theorem scene_agrees (hq : c.state = .QUEUED → c.queue = 0 ∨ c.queue = 1)
    (h0 : r.waiting = if c.state = .QUEUED ∧ c.queue = 0 then [0] else [])
    (h1 : r'.waiting = if c.state = .QUEUED ∧ c.queue = 1 then [0] else [])
    (ho : c.state = .OFFERED ↔ g.state = .OFFERED) (hc : c.state = .CONNECTED ↔ g.state = .TALKING)
    (hp : c.state = .OFFERED ∨ c.state = .CONNECTED → c.agent = some 0 ∧ g.call = some ⟨0, c.gen⟩)
    (ht : c.state = .CONNECTED → c.talkStart ≠ none) : (scene base c g r r').RecordsAgree := by
  have pair : c.state = .OFFERED ∨ c.state = .CONNECTED → (scene base c g r r').Paired 0 0 := fun h => by
    simp only [State.Paired, State.handle, scene_call, scene_agent, if_true]; exact hp h
  constructor
  · intro q; rw [scene_queue]; split_ifs
    · rw [h0]; split_ifs <;> simp
    · rw [h1]; split_ifs <;> simp
    · simp [Queue.reset]
  · intro q k; rw [scene_queue, scene_call]
    by_cases k0 : k = 0
    · subst k0; simp only [if_true]; split_ifs with a b
      · subst a; rw [h0]; split_ifs with h <;> simp_all
      · subst b; rw [h1]; split_ifs with h <;> simp_all
      · simp only [Queue.reset, List.not_mem_nil, false_iff, not_and]; rintro h rfl; cases hq h <;> contradiction
    · simp only [k0, if_false]; split_ifs
      · rw [h0]; split_ifs <;> simp [k0, Call.free]
      · rw [h1]; split_ifs <;> simp [k0, Call.free]
      · simp [Queue.reset, Call.free]
  · rw [scene_ready]; split_ifs <;> simp
  · intro a; rw [scene_agent, scene_ready]
    by_cases a0 : a = 0 <;> simp [a0, Agent.reset]
  · rw [scene_ready]; split_ifs <;> simp
  · intro k h; rw [scene_call] at h; split_ifs at h with k0
    · subst k0; exact ⟨0, by simpa [scene_agent] using ho.1 h, pair (.inl h)⟩
    · simp [Call.free] at h
  · intro k h; rw [scene_call] at h; split_ifs at h with k0
    · subst k0; exact ⟨0, by simpa [scene_agent] using hc.1 h, pair (.inr h)⟩
    · simp [Call.free] at h
  · intro k h; rw [scene_call] at h ⊢; split_ifs at h ⊢ with k0
    · exact ht h
    · simp [Call.free] at h
  · intro a h; rw [scene_agent] at h; split_ifs at h with a0
    · subst a0; exact ⟨0, by simpa [scene_call] using ho.2 h, pair (.inl (ho.2 h))⟩
    · simp [Agent.reset] at h
  · intro a h; rw [scene_agent] at h; split_ifs at h with a0
    · subst a0; exact ⟨0, by simpa [scene_call] using hc.2 h, pair (.inr (hc.2 h))⟩
    · simp [Agent.reset] at h

/-- The notices of a scene are lawful when the ring has its count and every marked record stands in the backlog. -/
theorem scene_notices (u : Setup) (hs : base.port.setup = some u) (hu : u.slotCount = 16)
    (hn : base.notices.backlog.Nodup) (hocc : (base.notices.posted - base.notices.taken).toNat ≤ 16)
    (hf : base.notices.backlog = [] ∨ (base.notices.posted - base.notices.taken).toNat = 16)
    (hm : c.marks = .empty ∨ RecordRef.call 0 ∈ base.notices.backlog)
    (hg : g.mark = false ∨ RecordRef.agent 0 ∈ base.notices.backlog) : (scene base c g r r').NoticeLaw := by
  have hset : (scene base c g r r').port.setup = some u := hs
  have hcount : (scene base c g r r').ringCount = 16 := by simp [State.ringCount, hset, hu]
  constructor
  · intro v hv; rw [hset] at hv; cases hv; simp [hu]
  · rw [hcount]; exact hocc
  · exact hn
  · rintro (k | a) h
    · simp only [State.pendingKind, scene_call] at h
      by_cases k0 : k = 0
      · subst k0; rcases hm with hm | hm
        · simp [hm, Marks.empty, Marks.first] at h
        · exact hm
      · simp [k0, Call.free, Marks.empty, Marks.first] at h
    · simp only [State.pendingKind, scene_agent] at h
      by_cases a0 : a = 0
      · subst a0; rcases hg with hg | hg
        · simp [hg] at h
        · exact hg
      · simp [a0, Agent.reset] at h
  · intro h; rw [hcount]; exact hf.resolve_left h
  · intro h; rw [hset] at h; cases h

/-- The players of a scene agree when player 0 serves the call, or none does. -/
theorem scene_players (hi : ∀ p, p ≠ 0 → base.pool p = .idle)
    (h : base.pool 0 = .idle ∧ c.poolPlayer = none ∨
      (base.pool 0).state = .PLAYING ∧ (base.pool 0).owner = some ⟨0, c.gen⟩ ∧ c.poolPlayer = some 0 ∧
        (c.audio = .GREETING ∨ c.audio = .ANNOUNCE) ∧ c.channel = some 16 ∧
        (c.state = .QUEUED ∨ c.state = .OFFERED)) : (scene base c g r r').PlayersAgree := by
  have pool : ∀ p, (scene base c g r r').pool p = base.pool p := fun _ => rfl
  constructor
  · intro p hp; rw [pool] at *
    by_cases p0 : p = 0
    · subst p0; rcases h with h | h
      · exact h.1
      · rw [h.1] at hp; cases hp
    · exact hi p p0
  · intro p hp; rw [pool] at *
    by_cases p0 : p = 0
    · subst p0; rcases h with h | h
      · rw [h.1] at hp; cases hp
      · exact ⟨0, by simpa [State.handle, scene_call] using h.2.1, by simpa [scene_call] using h.2.2.1⟩
    · rw [hi p p0] at hp; cases hp
  · intro k p hk; rw [scene_call] at hk; split_ifs at hk with k0
    · subst k0; rcases h with h | h
      · rw [h.2] at hk; cases hk
      · rw [h.2.2.1] at hk; cases hk
        simpa [State.handle, scene_call, pool] using ⟨h.1, h.2.1, h.2.2.2⟩
    · simp [Call.free] at hk
end

/-! ### Witnesses: a state and operands that meet the hypotheses of each statement, clause by clause -/

/-- A call waiting in queue 0, its mode `m`, an agent AWAY. -/
def queuedIn (m : QMode) : State :=
  scene (part 1000) (waiting 0 900 0 0) (agentIn .AWAY) { openQueue with mode := m, waiting := [0] } openQueue

/-- A call of queue 0 offered to agent 0, its deadline reached. -/
def offeredNow : State := scene (part 1000) (offered 0 900 1000) (serving .OFFERED) openQueue openQueue

/-- A call of queue 0 answered by agent 0. -/
def connectedNow : State := scene (part 1000) (connected 0 900 950) (serving .TALKING) openQueue openQueue

/-- No call, and agent 0 as given. -/
def agentOnly (g : Agent) : State := scene (part 1000) (.free 0) g openQueue openQueue

/-- A wrap of queue 0 whose deadline is reached. -/
def wrapNow : Agent :=
  { agentIn .WRAP with wrapTalk := 40, wrapStart := 980, wrapDeadline := ⟨1000, false⟩, wrapLimit := 1030 }

/-- The same state with a full ring. -/
def full (s : State) : State := { s with notices := { posted := 40, taken := 24, backlog := [] } }

/-- The same state before its SETUP. -/
def bare (s : State) : State := { s with port := { s.port with setup := none } }

theorem queuedIn_open_agrees : (queuedIn .OPEN).RecordsAgree :=
  scene_agrees _ _ _ _ _ (by decide) (by decide) (by decide) (by decide) (by decide) (by decide)
    (by decide)
theorem queuedIn_staging_agrees : (queuedIn .STAGING).RecordsAgree :=
  scene_agrees _ _ _ _ _ (by decide) (by decide) (by decide) (by decide) (by decide) (by decide)
    (by decide)
theorem offeredNow_agrees : offeredNow.RecordsAgree :=
  scene_agrees _ _ _ _ _ (by decide) (by decide) (by decide) (by decide) (by decide) (by decide)
    (by decide)
theorem connectedNow_agrees : connectedNow.RecordsAgree :=
  scene_agrees _ _ _ _ _ (by decide) (by decide) (by decide) (by decide) (by decide) (by decide)
    (by decide)

/-- The notices of a scene over `part` with no mark. -/
theorem part_notices {n : Nat} {c : Call} {g : Agent} {r r' : Queue} (hc : c.marks = .empty) (hg : g.mark = false) :
    (scene (part n) c g r r').NoticeLaw :=
  scene_notices _ _ _ _ _ ⟨0x10000, 0x20000, 16⟩ rfl rfl .nil (by decide : ((0 : BitVec 16) - 0).toNat ≤ 16) (.inl rfl) (.inl hc) (.inl hg)

/-- The notices of a scene over a full ring with no mark. -/
theorem full_notices {n : Nat} {c : Call} {g : Agent} {r r' : Queue} (hc : c.marks = .empty) (hg : g.mark = false) :
    (scene (full (part n)) c g r r').NoticeLaw :=
  scene_notices _ _ _ _ _ ⟨0x10000, 0x20000, 16⟩ rfl rfl .nil (by decide : ((40 : BitVec 16) - 24).toNat ≤ 16) (.inl rfl) (.inl hc) (.inl hg)

theorem part_taking (n : Nat) : (part n).Taking := ⟨rfl, rfl⟩

theorem witness_StepRunsTheFrontCommand :
    { part 0 with pending := [.powerOn, .runTimeout] }.pending = .powerOn :: [.runTimeout] := rfl

theorem witness_EveryWellFormedCommandGoesOn :
    (Instr.aLogin 0 0 0 0 0 (List.replicate 58 0)).wellFormed = true ∧ Instr.powerOn.wellFormed = true ∧
    (Instr.undecodedWrite 0x10 0).wellFormed = true ∧ (Instr.fetchRefused 0x20040001 [0, 0, 0]).wellFormed = true := by
  decide

theorem witness_RegistersReadTheirFields :
    ((0x10 : Word) ≠ 0x0 ∧ (0x10 : Word) ≠ 0x4 ∧ (0x10 : Word) ≠ 0x8 ∧ (0x10 : Word) ≠ 0xC) ∧
    (part 0).port.setup.isSome = true ∧ State.reset.port.setup = none := by decide

theorem witness_PowerOnAndItsFillGiveTheResetValues :
    State.reset.port.state = .INITIALISING ∧ (part 0).port.state ≠ .INITIALISING := by decide

theorem witness_PortResetClearsTheRecords :
    (part 0).port.state ≠ .REPLYING ∧ replyingArrive.port.state = .REPLYING ∧
    (part 0).port.setup = some ⟨0x10000, 0x20000, 16⟩ ∧ replyingArrive.port.setup = some ⟨0x10000, 0x20000, 16⟩ ∧
    replyingArrive.port.reply = some ⟨.DONE, .NONE, 0x20, 0x0031, 0, [77, 9, 2], []⟩ ∧
    ([77, 9, 2] : List Word).length ≤ 62 := by decide

theorem witness_ReqaddrWriteTakesOrOverruns :
    (at' .IDLE (part 0)).port.state = .IDLE ∧ (0xFFFFFFFC : Word).toNat % 4 = 0 ∧ (0xFFFFFFFD : Word).toNat % 4 ≠ 0 ∧
    (at' .IDLE (part 0)).port.setup.isSome = true ∧ (bare (at' .IDLE (part 0))).port.setup = none ∧
    (bare (at' .IDLE (part 0))).port.state = .IDLE ∧ (part 0).port.state ≠ .IDLE := by decide

/-- Lengths 0, 65, 64 and 1; code 0x20 without SETUP; code 0x99; code 0x20 with 5 words; a fault on the last word. -/
theorem witness_FetchesEndBeforeAnyRequest :
    (part 0).port.state = .FETCHING ∧ (bare (part 0)).port.state = .FETCHING ∧
    headerLength 0x20000031 = 0 ∧ headerLength 0x20410031 = 65 ∧ headerLength 0x99400031 = 64 ∧
    headerLength 0x99010031 = 1 ∧ (headerCode 0x20040031 ≠ 0x01 ∧ (bare (part 0)).port.setup = none) ∧
    (0x99 : BitVec 8) ∉ requestCodes ∧ (0x20 : BitVec 8) ∈ requestCodes ∧
    ([1, 2, 3, 4] : List Word).length + 1 = headerLength 0x20050031 ∧
    expectedLength 0x20 [1, 2, 3, 4] ≠ some 5 ∧ 1 ≤ 3 ∧ 3 < headerLength 0x20040031 := by decide

theorem witness_RepliesEndWithWordZero :
    replyingArrive.port.state = .REPLYING ∧
    replyingArrive.port.reply = some ⟨.DONE, .NONE, 0x20, 0x0031, 0, [77, 9, 2], []⟩ ∧
    replyingArrive.port.setup = some ⟨0x10000, 0x20000, 16⟩ ∧ ([77, 9, 2] : List Word).length ≤ 62 ∧
    ([] : List Word).length ≤ 192 ∧ 4 < 0 + 3 + 2 := by decide

/-- Posted 40 and taken 24 of 16: writes of 23 (beyond), 24 (none freed), 40 (all freed). -/
theorem witness_TakenIndexWritesFreeSlots :
    (bare (part 0)).port.setup = none ∧ (part 0).port.setup = some ⟨0x10000, 0x20000, 16⟩ ∧
    16 < ((40 : BitVec 16) - 23).toNat ∧ ((40 : BitVec 16) - 24).toNat = 16 ∧ ((40 : BitVec 16) - 40).toNat = 0 ∧
    (full (part 0)).notices.backlog = [] := by decide

theorem witness_TakenIndexWritesFreeSlots_drain :
    (scene (full (part 0)) (.free 0) (agentIn .AWAY) openQueue openQueue).NoticeLaw ∧
    (scene { full (part 0) with notices := { posted := 40, taken := 24, backlog := [.agent 0] } } (.free 0)
      { agentIn .AWAY with mark := true } openQueue openQueue).NoticeLaw :=
  ⟨full_notices rfl rfl, scene_notices _ _ _ _ _ ⟨0x10000, 0x20000, 16⟩ rfl rfl (by decide) (by decide)
    (.inr (by decide)) (.inl rfl) (.inr (by decide))⟩

theorem witness_RequestsNeedSetup :
    (Instr.qQuery 1 0).block = some ⟨0x12, 1, [0]⟩ ∧ (0x12 : BitVec 8) ≠ 0x01 ∧ (⟨0x12, 1, [0]⟩ : Block).length ≤ 64 ∧
    (bare (part 0)).port.state = .FETCHING ∧ (bare (part 0)).port.setup = none := by decide

theorem witness_RefusedRequestsChangeNoRecord :
    (Instr.qQuery 1 64).block = some ⟨0x12, 1, [64]⟩ ∧ (Instr.qQuery 1 64).wellFormed = true ∧ (part 0).Taking ∧
    (part 0).port.reply = none ∧ ∃ t r, exec (.qQuery 1 64) (part 0) = .next t ∧ t.port.reply = some r ∧
      r.cls = .REFUSED :=
  ⟨rfl, rfl, part_taking 0, rfl, _, _, rfl, rfl, rfl⟩

/-- The highest areas that end at 2^32, the smallest and greatest counts, and one address too high. -/
theorem witness_SetupStoresItsWords :
    (part 0).port.state = .FETCHING ∧
    ((0xFFFFFC00 : Word).toNat % 4 = 0 ∧ (0xFFFFFC00 : Word).toNat + 1024 ≤ 4294967296) ∧
    ((0xFFFFFF00 : Word).toNat % 16 = 0 ∧ (16 : Word).toNat = 2 ^ 4 ∧
      (0xFFFFFF00 : Word).toNat + (16 : Word).toNat * 16 ≤ 4294967296) ∧ (4096 : Word).toNat = 2 ^ 12 ∧
    (part 0).notices.posted = (part 0).notices.taken ∧ ¬ (0xFFFFFC04 : Word).toNat + 1024 ≤ 4294967296 ∧
    ¬ ((full (part 0)).port.setup = none ∨ (full (part 0)).notices.posted = (full (part 0)).notices.taken) := by
  decide

theorem witness_QDefineStoresClampedParameters :
    (part 0).Taking ∧ (defineWords 2049 601).queue = word (3 : QueueId).val ∧
    (defineWords 2049 601).skill = word (0 : Fin 64).val ∧ 1 ≤ (defineWords 2049 601).minLevel.toNat ∧
    (defineWords 2049 601).minLevel.toNat ≤ 9 ∧ policyOf (defineWords 2049 601).policy = some .LONGEST_READY ∧
    announceModeOf (defineWords 2049 601).announceMode = some .NONE ∧
    (defineWords 2049 601).overflowTarget = optWord ((none : Option QueueId).map (·.val)) ∧
    (none : Option QueueId) ≠ some 3 ∧ (defineWords 2049 601).greeting = optWord ((none : Option ClipId).map (·.val)) ∧
    (defineWords 2049 601).programme = optWord ((none : Option ProgrammeId).map (·.val)) :=
  ⟨part_taking 0, by decide, by decide, by decide, by decide, by decide, by decide, by decide, by decide, by decide,
    by decide⟩

/-- Definitions of queue 0 in STAGING that change the boost, the programme, the schedule and the overflow target. -/
def redefine : QDefineWords := { defineWords 60 60 with queue := 0, programme := 4, announceMode := 1, announceInterval := 20 }

/-- In STAGING and in OPEN, with room in the ring and without; the call is SILENT and gains a programme. -/
theorem witness_QDefineTreatsItsCalls :
    (∀ m, (queuedIn m).Taking ∧ (queuedIn m).NoticeLaw ∧ ((queuedIn m).queue 0).mode = m) ∧
    (queuedIn .STAGING).RecordsAgree ∧ (queuedIn .OPEN).RecordsAgree ∧ redefine.queue = word (0 : QueueId).val ∧
    (∃ d, qDefineOf 0 ((queuedIn .STAGING).queue 0).defined redefine = some d ∧
      ((queuedIn .STAGING).queue 0).params.classBoost ≠ d.params.classBoost ∧
      ((queuedIn .STAGING).queue 0).params.programme ≠ d.params.programme ∧
      ((queuedIn .STAGING).queue 0).params.announceMode = .NONE ∧ d.params.announceMode ≠ .NONE ∧
      d.params.announceInterval ≠ 0 ∧ d.params.programme ≠ none) ∧
    QMode.distribute .STAGING = false ∧ QMode.distribute .OPEN = true ∧
    ((queuedIn .STAGING).call 0).state = .QUEUED ∧ ((queuedIn .STAGING).call 0).audio = .SILENT ∧
    (queuedIn .STAGING).notices.backlog = [] ∧ 1 ≤ (queuedIn .STAGING).ringRoom ∧
    (full (queuedIn .STAGING)).ringRoom = 0 :=
  ⟨fun m => ⟨part_taking 0, part_notices rfl rfl, by simp [queuedIn, scene_queue]⟩, queuedIn_staging_agrees,
    queuedIn_open_agrees, by decide, ⟨_, rfl, by decide⟩, by decide⟩

theorem witness_QModeWritesAndSweeps :
    (queuedIn .STAGING).Taking ∧ (queuedIn .STAGING).NoticeLaw ∧ (queuedIn .STAGING).RecordsAgree ∧
    ((queuedIn .STAGING).queue 0).defined = true ∧ ((queuedIn .STAGING).queue 0).mode = .STAGING ∧
    (queuedIn .OPEN).NoticeLaw ∧ ((queuedIn .OPEN).queue 0).mode = .OPEN :=
  ⟨part_taking 0, part_notices rfl rfl, queuedIn_staging_agrees, by decide, by decide, part_notices rfl rfl, by decide⟩

/-- A queue in STAGING with a waiting call and a READY agent for it: the change to OPEN sweeps. -/
theorem witness_QModeWritesAndSweeps_sweep :
    let s := scene (part 1000) (waiting 0 900 0 0) (agentIn .READY)
      { openQueue with mode := .STAGING, waiting := [0] } openQueue;
    s.Taking ∧ s.NoticeLaw ∧ s.RecordsAgree ∧ (s.queue 0).defined = true ∧ (s.queue 0).mode = .STAGING ∧
    s.readyList = [0] ∧ (s.agent 0).qualifies (s.queue 0) = true :=
  ⟨part_taking 0, part_notices rfl rfl,
    scene_agrees _ _ _ _ _ (by decide) (by decide) (by decide) (by decide) (by decide) (by decide)
    (by decide), by decide⟩

theorem witness_QQueryReturnsTheFigures : table6_10.Taking ∧ (table6_10.queue 3).defined = true :=
  ⟨⟨rfl, rfl⟩, by decide⟩

theorem witness_QListWalksFromItsStart : table2_9.Taking ∧ (table2_9.queue 3).defined = true :=
  ⟨⟨rfl, rfl⟩, by decide⟩

theorem witness_QCountersReturnsAndClears :
    (part 0).Taking ∧ 64 ≤ (64 : Word).toNat ∧ (63 : Word) = word (63 : QueueId).val ∧
    ((part 0).queue 63).defined = false ∧ (table6_10.queue 3).defined = true :=
  ⟨part_taking 0, by decide⟩

theorem witness_IdentifiersAreRefusedNotClamped :
    (part 0).Taking ∧ (List.replicate 58 (0 : Word)).length ≤ 58 ∧ 64 ≤ (64 : Word).toNat ∧
    ((part 0).queue 63).defined = false ∧ (63 : Word) = word (63 : QueueId).val ∧ (3 : Word).toNat ≤ 3 ∧
    3 < (4 : Word).toNat ∧ 1024 ≤ (1024 : Word).toNat ∧ (2047 : CallId).val = (0xFFE0 : Word).toNat / 32 % 2048 ∧
    ((part 0).call 2047).state = .FREE ∧ ((queuedIn .OPEN).call 0).gen.val ≠ (4 : Word).toNat % 32 ∧
    ((queuedIn .OPEN).call 0).state ≠ .FREE ∧ 8 < (List.replicate 9 (0 : Word)).length ∧
    64 ≤ ((0x4005 : Word).extractLsb' 8 8).toNat ∧ 9 < ((0x000A : Word).extractLsb' 0 8).toNat ∧
    ¬ (([0x0405, 0x0407] : List Word).map fun e => e.extractLsb' 8 8).Nodup ∧ 65535 < (65536 : Word).toNat ∧
    2 ≤ (2 : Word).toNat ∧ 15 ≤ (15 : Word).toNat ∧ (3 : Word).toNat ≥ 3 ∧ 256 ≤ (256 : Word).toNat :=
  ⟨part_taking 0, by decide⟩

/-! #### Calls -/

/-- A queue admits. -/
theorem table1_4_admits : table1_4.Admits 12 := by unfold State.Admits; decide +kernel

theorem witness_CArriveFollowsTheChain :
    table1_4.Taking ∧ (table1_4.queue 10).defined = true ∧ (table1_4.call 0).state = .FREE ∧
    table1_4.WalksTo none 10 [10, 11] 12 ∧ table1_4.NoOffer 12 :=
  ⟨⟨rfl, rfl⟩, by decide, by decide, ⟨by decide, by decide, by decide, by decide, by
    unfold State.Admits; decide +kernel, table1_4_admits, nofun⟩, .inr (by decide)⟩

/-- The library with queue 0 OPEN as given and no call. -/
def greeted (base : State) (r : Queue) : State := scene base (.free 0) (agentIn .AWAY) r openQueue

/-- An accepting queue with a programme, and one whose greeting is in the clip table, a pool player IDLE; the call is
given a channel, with room in the ring and without. -/
theorem witness_CArriveFollowsTheChain_treated :
    let music : Queue := { openQueue with params := { openQueue.params with programme := some 4 } }
    let voice : Queue := { openQueue with params := { openQueue.params with greeting := some 17 } };
    (∀ r, r = music ∨ r = voice → (greeted (library 1000) r).Taking ∧
      (greeted (library 1000) r).WalksTo none 0 [] 0 ∧ (greeted (library 1000) r).NoOffer 0 ∧
      ((greeted (library 1000) r).call 0).state = .FREE) ∧
    (∀ r, 0 < (greeted (library 1000) r).ringRoom ∧ (greeted (library 1000) r).notices.backlog = [] ∧
      (greeted (full (library 1000)) r).ringRoom = 0 ∧ ((greeted (library 1000) r).pool 0).state = .IDLE ∧
      (greeted (library 1000) r).store.clip 17 = some ⟨2, 520000, 8000⟩) := by
  refine ⟨?_, fun r => ⟨(by decide : 0 < 16 - ((0 : BitVec 16) - 0).toNat), rfl,
    (by decide : 16 - ((40 : BitVec 16) - 24).toNat = 0), rfl, rfl⟩⟩
  rintro r (rfl | rfl) <;>
  exact ⟨⟨rfl, rfl⟩, ⟨by decide, by decide, by decide, by decide, nofun, by unfold State.Admits; decide +kernel, nofun⟩,
    .inr (by decide), by decide⟩

/-- Queues 10, 11 and 12 in a ring of targets, all refusing. -/
theorem witness_CArriveFollowsTheChain_diverted :
    let s := table1_4.setQueue 12 { openQueue with params := { openQueue.params with
      capacity := 0, overflowTarget := some 10 } };
    s.Taking ∧ (s.call 0).state = .FREE ∧ s.WalkEndsAt none 10 [10, 11] 12 :=
  ⟨⟨rfl, rfl⟩, by decide, ⟨by decide, by decide, by decide, by decide, by unfold State.Admits; decide +kernel,
    .inr (by decide)⟩⟩

theorem witness_CArriveFollowsTheChain_full :
    ∀ k, (({ table1_4 with calls := Vector.replicate 2048 (connected 10 0 5) } : State).call k).state ≠ .FREE := by
  intro k; simp [State.call, connected]

/-- An agent READY for queue 0, by the whole table of what C_ARRIVE asks, with room in the ring and without. -/
theorem witness_CArriveOffersToAReadyAgent :
    (agentOnly (agentIn .READY)).Taking ∧ (agentOnly (agentIn .READY)).NoticeLaw ∧
    (agentOnly (agentIn .READY)).ringFaults = [] ∧ (agentOnly (agentIn .READY)).Admits 0 ∧
    ((agentOnly (agentIn .READY)).queue 0).mode = .OPEN ∧ ((agentOnly (agentIn .READY)).queue 0).waiting = [] ∧
    ((agentOnly (agentIn .READY)).call 0).state = .FREE ∧ (agentOnly (agentIn .READY)).chooseAgent 0 = some 0 ∧
    (agentOnly (agentIn .READY)).notices.backlog = [] ∧ 0 < (agentOnly (agentIn .READY)).ringRoom ∧
    (scene (full (part 1000)) (.free 0) (agentIn .READY) openQueue openQueue).NoticeLaw ∧
    (scene (full (part 1000)) (.free 0) (agentIn .READY) openQueue openQueue).ringRoom = 0 :=
  ⟨part_taking 0, part_notices rfl rfl, rfl, by unfold State.Admits; decide +kernel, by decide, by decide, by decide,
    by decide +kernel, by decide, by decide, full_notices rfl rfl, by decide⟩

theorem witness_CAnswerConnectsTheOfferedCall :
    offeredNow.Taking ∧ (offeredNow.call 0).state = .OFFERED ∧ (offeredNow.call 0).agent = some 0 ∧
    (connectedNow.call 0).state ≠ .FREE ∧ (connectedNow.call 0).state ≠ .OFFERED := ⟨part_taking 0, by decide⟩

theorem witness_CEndFreesTheSlot :
    (queuedIn .OPEN).Taking ∧ (queuedIn .OPEN).RecordsAgree ∧ ((queuedIn .OPEN).call 0).state = .QUEUED ∧
    (offeredNow.RecordsAgree ∧ (offeredNow.call 0).state = .OFFERED ∧ (offeredNow.call 0).agent = some 0 ∧
      offeredNow.candidates 0 = []) ∧
    (connectedNow.RecordsAgree ∧ (connectedNow.call 0).state = .CONNECTED ∧ (connectedNow.call 0).agent = some 0 ∧
      (connectedNow.call 0).talkStart = some 950 ∧ (connectedNow.queue 0).params.wrapBase = 0) :=
  ⟨part_taking 0, queuedIn_open_agrees, by decide, ⟨offeredNow_agrees, by decide, by decide, by decide +kernel⟩,
    connectedNow_agrees, by decide⟩

/-- An OPEN queue that names the target `q`. -/
def naming (q : QueueId) : Queue := { openQueue with params := { openQueue.params with overflowTarget := some q } }

/-- Call slot 0 and agent 0 as given; queue 0, its list and wrap base as given, names queue 2, and queue 1 refuses and
names queue 0. -/
def twoQueues (c : Call) (g : Agent) (list : List CallId) (base : Nat) : State :=
  scene (part 1000) c g { naming 2 with waiting := list, params := { (naming 2).params with wrapBase := base } }
    { naming 0 with mode := .DRAINING }

/-- The same with queue 2, of mode `m`, naming queue 1. -/
def threeQueues (c : Call) (g : Agent) (list : List CallId) (base : Nat) (m : QMode) : State :=
  (twoQueues c g list base).setQueue 2 { naming 1 with mode := m }

theorem threeQueues_agrees {c : Call} {g : Agent} {list : List CallId} {base : Nat} {m : QMode}
    (h : (twoQueues c g list base).RecordsAgree) : (threeQueues c g list base m).RecordsAgree := by
  have same : ∀ q, ((threeQueues c g list base m).queue q).waiting = ((twoQueues c g list base).queue q).waiting := by
    intro q; rw [threeQueues, State.queue_setQueue]; split_ifs with e
    · subst e; rw [twoQueues, scene_queue]; rfl
    · rfl
  exact { h with
    listNodup := fun q => by rw [same]; exact h.listNodup q
    listed := fun q k => by rw [same]; exact h.listed q k }

/-- A waiting call of queue 0: the walk from queue 1 skips its own queue 0 and ends in queue 2. -/
def moveWaiting (m : QMode) : State := threeQueues (waiting 0 900 0 0) (agentIn .AWAY) [0] 0 m

/-- A connected call of queue 0, its wrap base as given: the walk from queue 1 ends in queue 0. -/
def moveConnected (base : Nat) : State := threeQueues (connected 0 900 950) (serving .TALKING) [] base .OPEN

theorem witness_CMoveQueuesTheCallAgain :
    (moveWaiting .OPEN).Taking ∧ (moveWaiting .OPEN).RecordsAgree ∧ ((moveWaiting .OPEN).call 0).state = .QUEUED ∧
    (1 : QueueId) ≠ ((moveWaiting .OPEN).call 0).queue ∧ ((moveWaiting .OPEN).queue 1).defined = true ∧
    (moveWaiting .OPEN).WalksTo (some 0) 1 [1, 0] 2 ∧ (moveWaiting .OPEN).NoOffer 2 ∧
    (offeredNow.call 0).state = .OFFERED ∧ ((moveWaiting .OPEN).queue 3).defined = false :=
  ⟨⟨rfl, rfl⟩, threeQueues_agrees (scene_agrees _ _ _ _ _ (by decide) (by decide) (by decide) (by decide) (by decide)
      (by decide) (by decide)), by decide, by decide, by decide,
    ⟨by decide, by decide, by decide, by decide, by unfold State.Admits; decide +kernel,
      by unfold State.Admits; decide +kernel⟩, .inr (by decide), by decide, by decide⟩

/-- A transfer along one hop, its wrap base 30 and 0. -/
theorem witness_CMoveQueuesTheCallAgain_connected : ∀ base, base = 30 ∨ base = 0 →
    (moveConnected base).Taking ∧ (moveConnected base).RecordsAgree ∧
    ((moveConnected base).call 0).state = .CONNECTED ∧ ((moveConnected base).call 0).agent = some 0 ∧
    ((moveConnected base).call 0).talkStart = some 950 ∧ ((moveConnected base).queue 1).defined = true ∧
    (moveConnected base).WalksTo none 1 [1] 0 ∧ (moveConnected base).NoOffer 0 ∧
    ((moveConnected base).queue 0).params.wrapBase = base := by
  rintro base (rfl | rfl) <;>
  exact ⟨⟨rfl, rfl⟩, threeQueues_agrees (scene_agrees _ _ _ _ _ (by decide) (by decide) (by decide) (by decide) (by decide)
      (by decide) (by decide)), by decide, by decide, by decide, by decide,
    ⟨by decide, by decide, by decide, by decide, by unfold State.Admits; decide +kernel,
      by unfold State.Admits; decide +kernel⟩, .inr (by decide), by decide⟩

/-- As in Table 1-5, the walk from queue 1 skips the own queue 0, finds queue 2 refusing, and ends there. -/
theorem witness_CMoveQueuesTheCallAgain_diverted :
    (moveWaiting .SHUT).Taking ∧ (moveWaiting .SHUT).RecordsAgree ∧ ((moveWaiting .SHUT).call 0).state = .QUEUED ∧
    ((moveWaiting .SHUT).queue 1).defined = true ∧ (moveWaiting .SHUT).WalkEndsAt (some 0) 1 [1, 0] 2 :=
  ⟨⟨rfl, rfl⟩, threeQueues_agrees (scene_agrees _ _ _ _ _ (by decide) (by decide) (by decide) (by decide) (by decide)
      (by decide) (by decide)), by decide, by decide,
    ⟨by decide, by decide, by decide, by decide, by unfold State.Admits; decide +kernel, .inr (by decide)⟩⟩

/-- A queue with a class boost in which the call's class changes from 0 to 3, given as 4. -/
theorem witness_CClassRepositionsTheCall :
    let r := { openQueue with waiting := [0], params := { openQueue.params with classBoost := 600 } };
    let s := scene (part 1000) (waiting 0 900 0 0) (agentIn .AWAY) r openQueue;
    s.Taking ∧ s.NoticeLaw ∧ s.RecordsAgree ∧ (s.call 0).state = .QUEUED ∧ min (4 : Word).toNat 3 ≠ (s.call 0).cls ∧
    (s.queue 0).params.classBoost ≠ 0 ∧ s.NoOffer 0 ∧ min (0 : Word).toNat 3 = (s.call 0).cls :=
  ⟨part_taking 0, part_notices rfl rfl,
    scene_agrees _ _ _ _ _ (by decide) (by decide) (by decide) (by decide) (by decide) (by decide)
    (by decide),
    by decide, by decide, by decide, .inr (by decide), by decide⟩

theorem witness_QueriesReturnTheRecord : (queuedIn .OPEN).Taking ∧ ((queuedIn .OPEN).call 0).state ≠ .FREE :=
  ⟨part_taking 0, by decide⟩

/-! #### Agents and wraps -/

/-- Agent 1 can log in at station 65,535 and not at agent 0's 2,207; the waiting call of queue 0 is its candidate. -/
theorem witness_LoginAndSkillsRunSelection :
    (queuedIn .OPEN).Taking ∧ (queuedIn .OPEN).NoticeLaw ∧ (queuedIn .OPEN).RecordsAgree ∧
    skillsOf [0x0005] = some [⟨0, 5⟩] ∧ (65535 : Word).toNat ≤ 65535 ∧
    ((queuedIn .OPEN).agent 1).state = .LOGGED_OUT ∧ (14 : Word) = word (14 : Fin 16).val ∧
    ((queuedIn .OPEN).agent 0).state ≠ .LOGGED_OUT ∧ ((queuedIn .OPEN).agent 0).station = (2207 : Word).toNat ∧
    ((queuedIn .OPEN).setAgent 1 { Agent.reset 0 with state := .READY, skills := [⟨0, 5⟩] }).selectQueue 1 = some 0 ∧
    ((queuedIn .OPEN).queue 0).waiting = [0] ∧
    ((queuedIn .OPEN).setAgent 1 { Agent.reset 0 with state := .READY, skills := [] }).candidates 1 = [] :=
  ⟨part_taking 0, part_notices rfl rfl, queuedIn_open_agrees, by decide +kernel⟩

/-- No agent of that scene but agent 0 is logged in, so station 65,535 is free. -/
theorem witness_LoginAndSkillsRunSelection_free :
    ¬ ∃ b, ((queuedIn .OPEN).agent b).state ≠ .LOGGED_OUT ∧ ((queuedIn .OPEN).agent b).station = 65535 := by
  rintro ⟨b, h, h'⟩; simp only [queuedIn, scene_agent] at h h'
  split_ifs at h h'
  · simp [agentIn] at h'
  · simp [Agent.reset] at h

/-- A READY agent whose new skills make the waiting call its candidate. -/
theorem witness_LoginAndSkillsRunSelection_skills :
    let s := scene (part 1000) (waiting 0 900 0 0) { agentIn .READY with skills := [] }
      { openQueue with waiting := [0] } openQueue;
    s.Taking ∧ s.NoticeLaw ∧ s.RecordsAgree ∧ (s.agent 0).state = .READY ∧
    (s.setAgent 0 { s.agent 0 with skills := [⟨0, 5⟩] }).selectQueue 0 = some 0 ∧ (s.queue 0).waiting = [0] :=
  ⟨part_taking 0, part_notices rfl rfl,
    scene_agrees _ _ _ _ _ (by decide) (by decide) (by decide) (by decide) (by decide) (by decide)
    (by decide), by decide +kernel⟩

/-- Every agent state, the empty expected set, a set with the state and one without it. -/
theorem witness_LogoutAndSetFollowTheirTables :
    (∀ st, (agentOnly (agentIn st)).Taking ∧ (agentOnly (agentIn st)).NoticeLaw ∧
      ((agentOnly (agentIn st)).agent 0).state = st) ∧
    (14 : Word) = word (14 : Fin 16).val ∧ (14 : Fin 16).val ≤ 14 ∧ (0xFFFFFFC0 : Word).extractLsb' 0 6 = 0 ∧
    (0x20 : Word).getLsbD AgentState.WRAP.code = true ∧ (0x20 : Word).getLsbD AgentState.READY.code = false ∧
    (0x20 : Word).extractLsb' 0 6 ≠ 0 ∧ (agentOnly (agentIn .AWAY)).candidates 0 = [] :=
  ⟨fun st => ⟨part_taking 0, part_notices rfl rfl, by simp [agentOnly, scene_agent, agentIn]⟩, by decide +kernel⟩

theorem witness_ACountersReturnsAndClears :
    (part 0).Taking ∧ 1024 ≤ (1024 : Word).toNat ∧ (1023 : Word) = word (1023 : AgentId).val :=
  ⟨part_taking 0, by decide⟩

theorem witness_WExtendStopsAtTheLimit :
    (agentOnly wrapNow).Taking ∧ 1024 ≤ (1024 : Word).toNat ∧ (0 : Word) = word (0 : AgentId).val ∧
    ((agentOnly wrapNow).agent 0).state = .WRAP ∧
    ((agentOnly wrapNow).agent 0).wrapDeadline.due ≤ ((agentOnly wrapNow).agent 0).wrapLimit ∧
    ((agentOnly wrapNow).agent 0).wrapLimit ≤ 4294967295 ∧ ((agentOnly (agentIn .READY)).agent 0).state ≠ .WRAP :=
  ⟨part_taking 0, by decide⟩

theorem witness_WrapsEndOnce :
    (agentOnly wrapNow).NoticeLaw ∧ (agentOnly wrapNow).Taking ∧ ((agentOnly wrapNow).agent 0).state = .WRAP ∧
    ((agentOnly wrapNow).agent 0).wrapDeadline.due ≤ (agentOnly wrapNow).now ∧
    ((agentOnly wrapNow).agent 0).wrapDeadline.held = false ∧ (agentOnly wrapNow).notices.backlog = [] ∧
    0 < (agentOnly wrapNow).ringRoom ∧ ((agentOnly (agentIn .READY)).agent 0).state ≠ .WRAP ∧
    (agentOnly (agentIn .READY)).NoticeLaw ∧ (scene (full (part 1000)) (.free 0) wrapNow openQueue openQueue).NoticeLaw ∧
    (scene (full (part 1000)) (.free 0) wrapNow openQueue openQueue).ringRoom = 0 :=
  ⟨part_notices rfl rfl, part_taking 0, by decide, by decide, by decide, by decide, by decide, by decide,
    part_notices rfl rfl, full_notices rfl rfl, by decide⟩

/-! #### Library, players and time -/

/-- A table with B(63) at 4,096, one that falls, one that passes 4,096; and segment 3 of section 7.4.1. -/
theorem witness_SMapReplacesTheTable :
    (library 0).Taking ∧ (mapWords 4096 4096).length = 32 ∧ (mapWords 4096 4097).length = 32 ∧
    (mapWords 1600 63).length = 32 ∧ ((library 0).store.attr 3).play = true ∧
    (library 0).store.boundary 3 ≠ 2112 ∧ ((library 0).store.attr 4).play = false := ⟨part_taking 0, by decide +kernel⟩

theorem witness_SAttrSilencesTheSegmentsPlayers :
    (library 0).Taking ∧ 64 ≤ (64 : Word).toNat ∧ 4 ≤ (4 : Word).toNat ∧ (2 : Word) = word (2 : SegmentId).val ∧
    (1 : Word) = word ((if false then 2 else 0) + (if true then 1 else 0)) ∧ ((library 0).store.attr 2).play = true ∧
    (∃ c, ((library 0).store.taken 0 ⟨2, 0, 9⟩).clip = some c ∧ c.segment = 2) :=
  ⟨part_taking 0, by decide, by decide, by decide, by decide, by decide, _, rfl, rfl⟩

theorem witness_ClipDefineWritesItsEntry :
    (library 0).Taking ∧ 256 ≤ (256 : Word).toNat ∧ (255 : Word) = word (255 : ClipId).val ∧
    (63 : Word) = word (63 : SegmentId).val ∧ (4194303 : Word).toNat < 4194304 ∧ 1 ≤ (1 : Word).toNat ∧
    4194304 < (4194305 : Word).toNat ∧ 4194304 ≤ (4194304 : Word).toNat := ⟨part_taking 0, by decide⟩

/-- A load of the last group of segment 2, one of no group, and one beyond the segment's size. -/
theorem witness_SLoadFollowsItsTests :
    (library 0).Taking ∧ (2 : Word) = word (2 : SegmentId).val ∧ ((library 0).store.attr 2).load = true ∧
    ((library 0).store.attr 0).load = false ∧
    ((library 0).store.boundary 2 - (library 0).store.boundaryBefore 2) * 1024 = 524288 ∧
    (524284 : Word).toNat % 4 = 0 ∧ (524284 : Word).toNat < 524288 ∧
    (0xFFFFFFFC : Word).toNat + 4 * min (4 / 4) ((524288 - 524284) / 4) ≤ 4294967296 := ⟨part_taking 0, by decide +kernel⟩

theorem witness_LoadsWriteGroupByGroup :
    let s := loading ⟨65536, 1000, 4003, false, 1000, 999, 0x400000, 1⟩;
    let u := loading ⟨65536, 1000, 4003, false, 1000, 1000, 0x400000, 1⟩;
    (s.port.state = .LOADING ∧ s.port.setup.isSome = true ∧ s.store.load.isSome = true ∧
      Memory.wf s.store.memory = true ∧ 999 < 1000) ∧
    u.port.state = .LOADING ∧ u.port.setup.isSome = true ∧ u.store.load.isSome = true ∧ 0 < 4003 - 4 * 1000 := by decide

theorem witness_LibraryTablesAreReplacedWhole :
    (library 0).Taking ∧ 16 ≤ (16 : Word).toNat ∧ 8 < (List.replicate 9 (0 : Word)).length ∧
    256 ≤ (256 : Word).toNat ∧ (15 : Word) = word (15 : ProgrammeId).val ∧
    ([5, 40] : List Word) = ([5, 40] : List ClipId).map (fun c => word c.val) ∧ ([5, 40] : List ClipId).length ≤ 8 ∧
    (library 0).store.entryAt [5, 40] 0 = none ∧ (library 0).store.entryAt [5, 40] 1 = some ⟨3, 0, 240000⟩ ∧
    (some 150 :: List.replicate 30 none : List (Option ClipId)).length = 31 ∧
    (256 : Word) ≠ 0xFFFFFFFF ∧ (List.replicate 31 (256 : Word)).length = 31 := ⟨part_taking 0, by decide +kernel⟩

theorem witness_PlayersSendTheSampleOfTheirPosition :
    ((library 0).store.taken 0 ⟨2, 520000, 8000⟩).clip = some ⟨2, 65536, 524288, 520000, 8000⟩ ∧
    Player.reset.clip = none := by decide +kernel

/-- Frame syncs 1 and 16 periods after the last, one between, and the sixteenth interval of a run in HOLDOVER. -/
theorem witness_FrameSyncsInStepSendFrames :
    (agentOnly (agentIn .AWAY)).PlayersAgree ∧ (agentOnly (agentIn .AWAY)).timeBase.highway = .LOCKED ∧
    (agentOnly (agentIn .AWAY)).timeBase.lastSync = some 0 ∧ 512 = 0 + 512 * 1 ∧ 8192 = 0 + 512 * 16 ∧
    (∀ j, 1 ≤ j → j ≤ 16 → 513 ≠ 0 + 512 * j) ∧
    (scene (clock .HOLDOVER 7999 0 (some 15)) (.free 0) (agentIn .AWAY) openQueue openQueue).PlayersAgree ∧
    (clock .HOLDOVER 7999 0 (some 15)).timeBase.run = some 15 :=
  ⟨scene_players _ _ _ _ _ (by decide) (.inl ⟨by decide, by decide⟩), by decide, by decide, by decide, by decide,
    fun j _ _ => by omega, scene_players _ _ _ _ _ (by decide) (.inl ⟨by decide, by decide⟩), by decide⟩

/-- The call of slot 0 in GREETING on pool player 0, which stands at the last sample of a clip of 8. -/
def greeting (script : List ClipId) : State :=
  let c : CapturedClip := ⟨2, 65536, 524288, 0, 8⟩
  let p : PoolPlayer := ⟨.PLAYING, some ⟨0, 3⟩, script, ⟨0, some c, 7, false, none⟩⟩;
  scene ((library 1000).setPool 0 p)
    { waiting 0 900 0 0 with audio := .GREETING, channel := some 16, poolPlayer := some 0 } (agentIn .AWAY)
    { openQueue with waiting := [0] } openQueue

theorem witness_ScriptEndsReturnTheCallToMusic :
    ((greeting [17]).PlayersAgree ∧ (greeting [17]).timeBase.highway = .LOCKED ∧
      (greeting [17]).timeBase.lastSync = some 0 ∧ ((greeting [17]).call 0).poolPlayer = some 0 ∧
      ((greeting [17]).pool 0).player.clip = some ⟨2, 65536, 524288, 0, 8⟩ ∧
      8 ≤ ((greeting [17]).pool 0).player.position + 1 ∧ 512 = 0 + 512 * 1) ∧
    (∀ x, 0 < x → (greeting [17]).store.entryAt [17] x = none) ∧
    (greeting [17, 40]).store.entryAt [17, 40] 1 = some ⟨3, 0, 240000⟩ :=
  ⟨⟨scene_players _ _ _ _ _ (by decide) (.inr (by decide)), by decide⟩,
    fun x hx => by obtain ⟨n, rfl⟩ : ∃ n, x = n + 1 := ⟨x - 1, by omega⟩; simp [ClipStore.entryAt], by decide +kernel⟩

theorem witness_HoldoverKeepsPartTime :
    (clock .HOLDOVER 7999 0 (some 14)).timeBase.highway = .HOLDOVER ∧
    (clock .LOCKED 7999 0 none).timeBase.highway = .LOCKED ∧ 8000 ≤ (clock .LOCKED 8000 0 none).timeBase.periodCount ∧
    (clock .LOCKED 7999 0 none).timeBase.periodCount < 8000 ∧
    (clock .HOLDOVER 0 0 none).timeBase.run = none ∧ (clock .HOLDOVER 0 0 (some 14)).timeBase.run = some 14 ∧
    (clock .HOLDOVER 0 0 (some 14)).timeBase.lastSync = some 0 := by decide

/-! #### Timers and notices -/

/-- The offer of `offeredNow` has expired; with overflow due it moves to queue 1, or is spent against a DRAINING one. -/
def overflowDue (m : QMode) : State :=
  scene (part 1000) { offered 0 900 1000 with overflowDue := true } (serving .OFFERED)
    { openQueue with params := { openQueue.params with overflowTarget := some 1, overflowAfter := 100 } }
    { openQueue with mode := m }

theorem witness_OfferExpiriesWithdrawTheCall :
    offeredNow.RecordsAgree ∧ (offeredNow.call 0).offerPosted = true ∧
    (offeredNow.call 0).offerDeadline = some ⟨1000, false⟩ ∧ offeredNow.now = 1000 ∧
    (offeredNow.call 0).agent = some 0 ∧ offeredNow.NoOffer 0 ∧ (offeredNow.call 0).overflowDue = false ∧
    ((overflowDue .OPEN).RecordsAgree ∧ (overflowDue .OPEN).Admits 1 ∧ (overflowDue .OPEN).NoOffer 1 ∧
      ((overflowDue .OPEN).queue 0).params.overflowTarget = some 1) ∧
    ¬ (overflowDue .DRAINING).Admits 1 ∧ (connectedNow.call 0).state ≠ .OFFERED :=
  ⟨offeredNow_agrees, by decide, by decide, by decide, by decide, .inr (by decide), by decide,
    ⟨scene_agrees _ _ _ _ _ (by decide) (by decide) (by decide) (by decide) (by decide) (by decide)
    (by decide),
      by unfold State.Admits; decide +kernel, .inr (by decide), by decide⟩,
    by unfold State.Admits; decide +kernel, by decide⟩

/-- A waiting call whose overflow time is reached this second, its target of mode `m`. -/
def overflowing (base : State) (m : QMode) : State :=
  scene base (waiting 0 900 0 0) (agentIn .AWAY)
    { openQueue with
      waiting := [0], params := { openQueue.params with overflowTarget := some 1, overflowAfter := 100 } }
    { openQueue with mode := m }

theorem witness_OverflowExpiriesMoveOrSpend :
    (overflowing (part 1000) .OPEN).RecordsAgree ∧ (overflowing (part 1000) .OPEN).NoticeLaw ∧
    ((overflowing (part 1000) .OPEN).call 0).entry + 100 = (overflowing (part 1000) .OPEN).now ∧
    (overflowing (part 1000) .OPEN).Admits 1 ∧ (overflowing (part 1000) .OPEN).NoOffer 1 ∧
    ¬ (overflowing (part 1000) .SHUT).Admits 1 ∧ (overflowing (full (part 1000)) .OPEN).NoticeLaw ∧
    (overflowing (full (part 1000)) .OPEN).ringRoom = 0 ∧
    ¬ ((overflowing (part 999) .OPEN).call 0).entry + 100 ≤ (overflowing (part 999) .OPEN).now ∧
    ((overflowDue .OPEN).call 0).overflowDue = true ∧ (offeredNow.call 0).state = .OFFERED :=
  ⟨scene_agrees _ _ _ _ _ (by decide) (by decide) (by decide) (by decide) (by decide) (by decide)
    (by decide),
    part_notices rfl rfl, by decide, by unfold State.Admits; decide +kernel, .inr (by decide),
    by unfold State.Admits; decide +kernel, full_notices rfl rfl, by decide, by decide, by decide, by decide⟩

/-- The call of slot 0 in MUSIC, its announcement due this second, its queue speaking the position. -/
def announcing (entries : Vector (Option ClipId) 31) : State :=
  scene { library 1000 with treatment := { (library 1000).treatment with speech := entries } }
    { waiting 0 900 0 0 with audio := .MUSIC, channel := some 3, nextAnnouncement := some ⟨1000, false⟩ }
    (agentIn .AWAY)
    { openQueue with
      waiting := [0], params := { openQueue.params with announceMode := .POSITION, announceInterval := 20 } } openQueue

theorem witness_AnnouncementsStartOrAreSkipped :
    (announcing (Vector.replicate 31 none)).RecordsAgree ∧
    ((announcing (Vector.replicate 31 none)).call 0).nextAnnouncement = some ⟨1000, false⟩ ∧
    (announcing (Vector.replicate 31 none)).now = 1000 ∧
    (announcing (Vector.replicate 31 none)).announcementScript .POSITION 1 60 = [] ∧
    (announcing (Vector.replicate 31 (some 17))).announcementScript .POSITION 1 60 = [17, 17, 17] ∧
    (announcing (Vector.replicate 31 (some 17))).timeBase.highway = .LOCKED ∧
    ((announcing (Vector.replicate 31 (some 17))).pool 0).state = .IDLE :=
  ⟨scene_agrees _ _ _ _ _ (by decide) (by decide) (by decide) (by decide) (by decide) (by decide)
    (by decide), by decide +kernel⟩

/-- The ring of Table 11-3 has K at the head of its backlog with three marks, and agent 7 behind it. -/
theorem witness_NoticesCarryTheRecordAsItStands :
    (table11_3 6010).notices.backlog = .call 30 :: [.agent 7] ∧ RecordRef.call 30 ∉ [RecordRef.agent 7] ∧
    (table11_3 6010).port.setup = some ⟨0x10000, 0x20000, 16⟩ ∧ (table11_3 6010).pendingKind (.call 30) ≠ none ∧
    (table11_3 6010).ringFaults = [] ∧ ((table11_3 6010).call 30).marks.moved = true ∧
    ((table11_3 6010).agent 7).mark = true ∧
    ({ table11_3 6010 with ringFaults := [some 0, none] } : State).ringFaults = some 0 :: [none] ∧
    ({ table11_3 6010 with ringFaults := [some 3] } : State).pendingKind (.call 30) ≠ none := by decide +kernel

/-! #### Distribution and what every step keeps -/

theorem witness_SelectionPrefersStarvationThenScore :
    (table4_4.queue 3).mode.distribute = true ∧ (table4_4.queue 3).waiting ≠ [] ∧
    (table4_4.agent 41).qualifies (table4_4.queue 3) = true ∧ (table4_4.queue 3).params.weight ≤ 32 ∧
    (table4_4.queue 3).params.skillGain ≤ 255 ∧ 1 ≤ (table4_4.queue 3).params.minLevel := by decide +kernel

theorem witness_SweepsChooseByPolicy : (agentOnly (agentIn .READY)).chooseAgent 0 = some 0 ∧
    (agentOnly (agentIn .AWAY)).chooseAgent 0 = none := by decide +kernel

theorem witness_BlockWordsReadBack :
    (Instr.aSkills 1 0 (List.replicate 61 5)).wellFormed = true ∧
    (Instr.aSkills 1 0 (List.replicate 61 5)).block = some ⟨0x33, 1, 0 :: countedList (List.replicate 61 5)⟩ := by decide

/-- A call waiting in queue 0, counted as entered, and a command in front. -/
def steady : State :=
  scene { part 1000 with pending := [.causeClear 7] } (waiting 0 900 0 0) (agentIn .AWAY)
    { openQueue with waiting := [0], counters := { QueueCounters.zero with entered := 1 } } openQueue

/-- The laws of the records hold of that state, of which a step answers a next state (RecordsStayInAgreement,
PoolPlayersServeOneCallEach, BacklogLawIsKept). -/
theorem witness_records_step : (∃ t, step steady = .next t) ∧ steady.RecordsAgree ∧ steady.PlayersAgree ∧
    steady.NoticeLaw ∧ steady.FieldsOfState :=
  ⟨⟨_, rfl⟩, scene_agrees _ _ _ _ _ (by decide) (by decide) (by decide) (by decide) (by decide) (by decide)
    (by decide),
    scene_players _ _ _ _ _ (by decide) (.inl ⟨by decide, by decide⟩),
    scene_notices _ _ _ _ _ ⟨0x10000, 0x20000, 16⟩ rfl rfl .nil (by decide) (.inl rfl) (.inl rfl) (.inl rfl), by
      have h : ∀ a, steady.agent a = if a = 0 then agentIn .AWAY else .reset 0 := scene_agent _ _ _ _ _
      constructor <;> intro a <;> rw [h] <;> split_ifs <;> decide⟩

theorem steady_call (k : CallId) : steady.call k = if k = 0 then waiting 0 900 0 0 else .free 0 :=
  scene_call _ _ _ _ _ k

theorem steady_agent (a : AgentId) : steady.agent a = if a = 0 then agentIn .AWAY else .reset 0 :=
  scene_agent _ _ _ _ _ a

theorem steady_queue (q : QueueId) : steady.queue q =
    if q = 0 then { openQueue with waiting := [0], counters := { QueueCounters.zero with entered := 1 } }
    else if q = 1 then openQueue else .reset := scene_queue _ _ _ _ _ q

/-- So do the orders of the lists, R70, the backlog's and the counters' laws (ListsStayOrdered,
NoCallIsLeftToAReadyAgent, BacklogLawIsKept, CountersStayBalanced). -/
theorem witness_lists_step : steady.ListsOrdered ∧ steady.NoneLeftWaiting ∧ steady.BacklogExact ∧ steady.Balanced ∧
    steady.CountersOrdered := by
  refine ⟨?_, ?_, ⟨?_, ?_⟩, ?_, ?_⟩
  · intro q; rw [steady_queue]; split_ifs <;> simp [openQueue, Queue.reset]
  · intro a q h; rw [steady_agent] at h; split_ifs at h <;> simp [agentIn, Agent.reset] at h
  · intro r h; cases h
  · intro k _; rw [steady_call]; split_ifs <;> rfl
  · have h : ∀ q, steady.offeredCount q = 0 := by
      intro q
      refine List.countP_eq_zero.2 fun c hc => ?_
      obtain ⟨i, hi, rfl⟩ := List.getElem_of_mem hc
      have := steady_call ⟨i, by simpa using hi⟩
      simp only [State.call] at this
      rw [Vector.getElem_toList, this]; split_ifs <;> simp [waiting, Call.free]
    intro q _
    rw [State.occupancy, h, State.depth, steady_queue]; split_ifs <;> rfl
  · intro q; rw [steady_queue]; split_ifs <;> decide

/-- And the ranges of the fields, the store's law and the port's (FieldRangesAreKept, AhtNeverLeavesItsRange,
StoreAndPortLawsAreKept). -/
theorem witness_ranges_step : steady.ParamsInRange ∧ steady.RecordsInRange ∧ steady.TimeInRange ∧ steady.AhtInRange ∧
    steady.StoreLaw ∧ steady.PortLaw ∧ steady.ReplyFits := by
  have inRange : QueueParams.reset.InRange := by constructor <;> decide
  refine ⟨?_, ⟨by decide, ?_, ?_, ?_, ?_, ?_, ?_, ?_, ?_⟩, ⟨by decide, by decide, ?_, by decide⟩, ?_,
    ⟨?_, ?_, by decide, ?_, ?_⟩, ?_, fun r h => by cases h⟩
  · intro q; rw [steady_queue]; split_ifs
    · exact ⟨{ inRange with capacity := by decide }, nofun⟩
    · exact ⟨{ inRange with capacity := by decide }, nofun⟩
    · exact ⟨inRange, nofun⟩
  · intro k; rw [steady_call]; split_ifs <;> decide
  · intro k; rw [steady_call]; split_ifs <;> decide
  · intro k; rw [steady_call]; split_ifs <;> decide
  · intro k c h; rw [steady_call] at h; split_ifs at h <;> cases h
  · intro a; rw [steady_agent]; split_ifs <;> decide
  · intro a; rw [steady_agent]; split_ifs
    · refine ⟨by decide, by decide, fun k hk => ?_⟩; cases List.mem_singleton.1 hk; decide
    · exact ⟨by decide, by decide, fun k hk => nomatch hk⟩
  · intro a r h; rw [steady_agent] at h; split_ifs at h <;> cases h
  · intro a; rw [steady_agent]; split_ifs <;> decide
  · intro n h; cases h
  · intro q; rw [steady_queue]; split_ifs <;> decide
  · intro i j _; simp [steady, scene, part, State.reset, ClipStore.reset, State.setReadyList, State.setAgent,
      State.setCall, State.setQueue, cleared]
  · intro i; simp [steady, scene, part, State.reset, ClipStore.reset, State.setReadyList, State.setAgent,
      State.setCall, State.setQueue, cleared]
  · intro c h; cases h
  · intro l h; cases h
  · exact ⟨by decide, by decide, fun h => by cases h⟩

/-- And the ranges of the counters, the moments, the clips and the players (FieldRangesAreKept). -/
theorem witness_ranges_step_records : steady.CountersInRange ∧ steady.StampsInRange ∧ steady.LibraryInRange := by
  have silent : Player.reset.InRange :=
    ⟨by decide, fun _ => rfl, nofun, nofun, nofun⟩
  refine ⟨⟨?_, ?_, ?_⟩, ⟨?_, ?_, ?_⟩, ⟨?_, ?_, ?_, ?_⟩⟩
  · intro q; rw [steady_queue]; split_ifs <;> decide
  · intro q; rw [steady_queue]; split_ifs <;> decide
  · intro a; rw [steady_agent]; split_ifs <;> decide
  · intro k
    have now : steady.now = 1000 := rfl
    rw [steady_call, now]; split_ifs <;> exact ⟨by decide, by decide, nofun, nofun⟩
  · intro k d h; rw [steady_call] at h; split_ifs at h <;> rcases h with h | h <;> cases h
  · intro a
    have now : steady.now = 1000 := rfl
    rw [steady_agent, now]; split_ifs <;> decide
  · intro c e h
    have none : steady.store.clip c = none := by
      simp [steady, scene, part, State.reset, ClipStore.reset, ClipStore.clip, State.setReadyList, State.setAgent,
        State.setCall, State.setQueue, cleared]
    rw [none] at h; cases h
  · decide
  · intro p
    have idle : steady.broadcastPlayer p = .reset := by revert p; decide
    rw [idle]; exact silent
  · intro p
    have idle : steady.pool p = .idle := by revert p; decide
    rw [idle]; exact ⟨silent, by decide, fun h => by cases h⟩

end Sys2Proof.Tests
end

section
/-! PROOFS. Words as operands, and a request taken at its owning block: what the proofs about the requests share. -/

namespace Sys2Proof.Machine

/-! ### Operand words -/

theorem word_toNat {n : Nat} (h : n < 4294967296) : (word n).toNat = n := by
  simpa [word] using h

/-- A word names an identifier when it is its number (R186). -/
theorem idOf_word {n : Nat} (hn : n ≤ 4294967296) (i : Fin n) : idOf n (word i.val) = some i := by
  have hi : (word i.val).toNat = i.val := word_toNat (i.isLt.trans_le hn)
  simp [idOf, hi]

/-- A word out of range names no identifier (spec 00 section 2.2). -/
theorem idOf_eq_none {n : Nat} {w : Word} : idOf n w = none ↔ n ≤ w.toNat := by
  simp [idOf]

/-- An optional identifier out of range (R186). -/
theorem optIdOf_eq_none {n : Nat} {w : Word} (h : w ≠ 0xFFFFFFFF ∧ n ≤ w.toNat) : optIdOf n w = none := by
  have hw : w ≠ Config.absent := h.1
  simp [optIdOf, hw, idOf_eq_none.mpr h.2]

/-- The word of an optional identifier names it (R186). -/
theorem optIdOf_optWord {n : Nat} (hn : n < 4294967296) (i : Option (Fin n)) :
    optIdOf n (optWord (i.map (·.val))) = some i := by
  cases i with
  | none => simp [optIdOf, optWord]
  | some i =>
    have hne : word i.val ≠ Config.absent := fun e => by
      have hi := word_toNat (i.isLt.trans hn)
      rw [e] at hi
      have : Config.absent.toNat = 4294967295 := rfl
      have := i.isLt
      omega
    simp [optIdOf, optWord, hne, idOf_word hn.le]

/-- The word of a handle names the handle (R186). -/
theorem handleOf_word (h : Handle) : handleOf h.word = h := by
  obtain ⟨⟨k, hk⟩, ⟨g, hg⟩⟩ := h
  have hw : (word (k * 32 + g)).toNat = k * 32 + g := word_toNat (by omega)
  have hslot : (k * 32 + g) / 32 % 2048 = k := by omega
  have hgen : (k * 32 + g) % 32 = g := by omega
  simp [handleOf, Handle.word, hw, hslot, hgen]

/-- The handle of a call that is not FREE is live (R21). -/
theorem State.live_handle (s : State) (k : CallId) (h : (s.call k).state ≠ .FREE) :
    s.live (handleOf (s.handle k).word) = some k := by
  rw [handleOf_word]
  simp [State.live, State.handle, h]

/-- A handle of a FREE slot or of another generation is stale (R21). -/
theorem State.live_stale (s : State) (w : Word) (k : CallId) (hk : k.val = w.toNat / 32 % 2048)
    (h : (s.call k).state = .FREE ∨ (s.call k).gen.val ≠ w.toNat % 32) : s.live (handleOf w) = none := by
  have hslot : (handleOf w).slot = k := Fin.ext hk.symm
  have hgen : (handleOf w).gen.val = w.toNat % 32 := rfl
  unfold State.live
  rw [hslot, if_neg]
  rintro ⟨hstate, he⟩
  rcases h with h | h
  · exact hstate h
  · exact h (by rw [he, hgen])

/-- A code above the four modes is no mode (Table 10-7). -/
theorem modeOf_eq_none {w : Word} (h : 3 < w.toNat) : modeOf w = none := by
  unfold modeOf
  split
  case h_5 => rfl
  all_goals omega

/-- The codes 0..3 are modes (Table 10-7). -/
theorem modeOf_isSome {w : Word} (h : w.toNat ≤ 3) : ∃ m, modeOf w = some m := by
  have code : w.toNat = 0 ∨ w.toNat = 1 ∨ w.toNat = 2 ∨ w.toNat = 3 := by omega
  rcases code with e | e | e | e <;> simp [modeOf, e]

theorem modeOf_code (m : QMode) : modeOf (word m.code) = some m := by cases m <;> rfl

/-- A code above the three policies is none (Table 10-7). -/
theorem policyOf_eq_none {w : Word} (h : 3 ≤ w.toNat) : policyOf w = none := by
  unfold policyOf
  split
  case h_4 => rfl
  all_goals omega

/-- A code above the four announce modes is none (Table 10-7). -/
theorem announceModeOf_eq_none {w : Word} (h : 4 ≤ w.toNat) : announceModeOf w = none := by
  unfold announceModeOf
  split
  case h_5 => rfl
  all_goals omega

/-- A target code above AWAY, or AWAY with a reason above 14, is refused (R52, Table 10-7). -/
theorem targetOf_eq_none {target reason : Word}
    (h : 2 ≤ target.toNat ∨ (target = 1 ∧ 15 ≤ reason.toNat)) : targetOf target reason = none := by
  rcases h with h | ⟨rfl, h⟩
  · unfold targetOf
    split
    case h_3 => rfl
    all_goals omega
  · have hlt : ¬ reason.toNat < 15 := Nat.not_lt.mpr h
    simp [targetOf, hlt]

/-- A skill entry is readable when its id and its level lie in range (R46). -/
theorem skillOf_eq_some {w : Word} {k : Skill} (h : skillOf w = some k) :
    k.id.val = (w.extractLsb' 8 8).toNat ∧ (w.extractLsb' 8 8).toNat < 64 ∧
      1 ≤ (w.extractLsb' 0 8).toNat ∧ (w.extractLsb' 0 8).toNat ≤ 9 := by
  unfold skillOf at h
  dsimp only at h
  split at h
  · split at h
    · rename_i hid hlevel
      cases h
      exact ⟨rfl, hid, hlevel.1, hlevel.2⟩
    · cases h
  · cases h

/-- A list is read when each of its words is, in their order. -/
theorem allOf_eq_some {α : Type} {f : Word → Option α} {ws : List Word} {l : List α} (h : allOf f ws = some l) :
    List.Forall₂ (fun w x => f w = some x) ws l := by
  induction ws generalizing l with
  | nil => cases h; exact .nil
  | cons w ws ih =>
    simp only [allOf] at h
    split at h
    · rename_i x xs hx hxs
      cases h
      exact .cons hx (ih hxs)
    · cases h

/-- The skill ids of a list that is read are the id bytes of its words (R186). -/
theorem allOf_skillOf_ids {ws : List Word} {l : List Skill} (h : allOf skillOf ws = some l) :
    l.map (fun k => k.id.val) = ws.map fun w => (w.extractLsb' 8 8).toNat := by
  have hread := allOf_eq_some h
  clear h
  induction hread with
  | nil => rfl
  | cons hx _ ih => rw [List.map_cons, List.map_cons, (skillOf_eq_some hx).1, ih]

/-- A skill list is refused when it is too long, holds an entry out of range or names a skill twice (R46). -/
theorem skillsOf_eq_none {l : List Word}
    (h : 8 < l.length ∨
      (∃ e ∈ l, 64 ≤ (e.extractLsb' 8 8).toNat ∨ (e.extractLsb' 0 8).toNat = 0 ∨ 9 < (e.extractLsb' 0 8).toNat) ∨
      ¬ (l.map fun e => e.extractLsb' 8 8).Nodup) : skillsOf l = none := by
  unfold skillsOf
  split
  case isFalse => rfl
  case isTrue hlen =>
    split
    case h_2 => rfl
    case h_1 skills hread =>
      rw [if_neg]
      intro hnodup
      have hids : (l.map fun e => (e.extractLsb' 8 8).toNat).Nodup := by
        rw [← allOf_skillOf_ids hread]
        simpa [List.map_map, Function.comp_def] using hnodup.map Fin.val_injective
      rcases h with h | ⟨e, he, hbad⟩ | h
      · omega
      · obtain ⟨k, -, hk⟩ : ∃ k ∈ skills, skillOf e = some k := by
          have := allOf_eq_some hread
          obtain ⟨i, hi, rfl⟩ := List.getElem_of_mem he
          exact ⟨skills[i]'(this.length_eq ▸ hi), List.getElem_mem _, (List.forall₂_iff_get.mp this).2 i hi _⟩
        have := skillOf_eq_some hk
        omega
      · refine h (List.Nodup.of_map BitVec.toNat ?_)
        simpa [List.map_map, Function.comp_def] using hids

/-! ### A request taken -/

/-- A request whose block passes its tests is taken, and its reply follows (R174, R176). -/
theorem State.Taking.takes {s : State} (hs : s.Taking) {b : Block} (body : State → State × Answer)
    (hb : blockTest true b = none) :
    takeRequest b s body = .next ((body s).1.toReply ((body s).2.reply b.code b.tag)) :=
  takeRequest_taken b s body hs.1 (by rw [hs.2]; exact hb)

/-- A request that answers and changes nothing leaves the port in REPLYING. -/
theorem State.Taking.answers {s : State} (hs : s.Taking) {b : Block} {body : State → State × Answer}
    {cls : ReplyClass} {reason : Reason} {payload : List Word}
    (hb : blockTest true b = none) (h : body s = (s, ⟨cls, reason, 0, payload, []⟩)) :
    takeRequest b s body = .next (s.replying cls reason b.code b.tag payload) := by
  rw [hs.takes body hb, h]
  exact congrArg Host.Outcome.next (s.toReply_replying cls reason payload b.code b.tag hs.2)

/-- The block of an A_LOGIN whose list fits its length field passes the tests (R174). -/
theorem blockTest_aLogin (tag : Tag) (a b c d : Word) (l : List Word) (hl : l.length ≤ 58) :
    blockTest true ⟨0x30, tag, a :: b :: c :: d :: countedList l⟩ = none := by
  refine blockTest_present _ (by simp [Block.length, countedList]; omega) (by simp [requestCodes]) ?_
  simp [expectedLength, listLength, countedList, Block.length, word_toNat (show l.length < 4294967296 by omega)]
  omega

/-- And so does the block of an A_SKILLS. -/
theorem blockTest_aSkills (tag : Tag) (a : Word) (l : List Word) (hl : l.length ≤ 58) :
    blockTest true ⟨0x33, tag, a :: countedList l⟩ = none := by
  refine blockTest_present _ (by simp [Block.length, countedList]; omega) (by simp [requestCodes]) ?_
  simp [expectedLength, listLength, countedList, Block.length, word_toNat (show l.length < 4294967296 by omega)]
  omega

end Sys2Proof.Machine
end

section
/-! PROOFS. The policy's order of the agents, and what a run of offers from a queue's head does (R67, R68, R75, R76). -/

namespace Sys2Proof.Machine

/-! ### The policy's order -/

/-- Under an order that is transitive and decides between any two, the choice goes before every other entry. -/
theorem pickFirst_before {α : Type} {before : α → α → Bool}
    (trans : ∀ a b c, before a b = true → before b c = true → before a c = true)
    (total : ∀ a b, a ≠ b → before a b = true ∨ before b a = true) {l : List α} {x : α}
    (h : pickFirst before l = some x) : ∀ y ∈ l, y ≠ x → before x y = true := by
  induction l generalizing x with
  | nil => simp
  | cons z zs ih =>
    intro y hy hne
    simp only [pickFirst] at h
    split at h
    case h_2 hnone =>
      cases h
      rw [(pickFirst_none before zs).mp hnone, List.mem_singleton] at hy
      exact absurd hy hne
    case h_1 best hbest =>
      split at h
      case isTrue hz =>
        cases h
        rcases List.mem_cons.mp hy with rfl | hy
        · exact hz
        · exact ih hbest y hy hne
      case isFalse hz =>
        cases h
        have hy : y ∈ zs := (List.mem_cons.mp hy).resolve_left hne
        by_cases hb : best = z
        · exact hb ▸ ih hbest y hy (hb ▸ hne)
        · have first : before z best = true := (total best z hb).resolve_left hz
          by_cases hyb : y = best
          · exact hyb ▸ first
          · exact trans _ _ _ first (ih hbest y hy hyb)

theorem State.readyBehind_iff (s : State) (a b : AgentId) :
    s.readyBehind a b = true ↔ (s.agent a).readySince < (s.agent b).readySince ∨
      ((s.agent a).readySince = (s.agent b).readySince ∧ a < b) := by
  simp [State.readyBehind]

theorem Agent.levelFor_eq (g : Agent) (r : Queue) :
    g.levelFor r = ((g.skills.find? fun k => k.id = r.params.skill).map (·.level)).getD 0 := by
  simp [Agent.levelFor, Agent.level, beq_eq_decide]

theorem Agent.occupied_eq (g : Agent) :
    g.occupied = min (g.counters.talkSeconds + g.counters.wrapSeconds) 4294967295 := rfl

/-- The model's preference is the policy's order of Table 4-1 (R67). -/
theorem State.preferred_iff (s : State) (q : QueueId) (a b : AgentId) :
    s.preferred q a b = true ↔ s.GoesBefore (s.queue q) a b := by
  unfold State.preferred State.GoesBefore
  simp only [← Agent.levelFor_eq, ← Agent.occupied_eq, ← State.readyBehind_iff]
  cases (s.queue q).params.policy <;> simp [eq_comm (a := Agent.levelFor (s.agent b) _)]

theorem State.readyBehind_trans (s : State) {a b c : AgentId} (hab : s.readyBehind a b = true)
    (hbc : s.readyBehind b c = true) : s.readyBehind a c = true := by
  rw [State.readyBehind_iff, Fin.lt_def] at *
  omega

theorem State.readyBehind_total (s : State) {a b : AgentId} (h : a ≠ b) :
    s.readyBehind a b = true ∨ s.readyBehind b a = true := by
  rw [Ne, Fin.ext_iff] at h
  rw [State.readyBehind_iff, State.readyBehind_iff, Fin.lt_def, Fin.lt_def]
  omega

theorem State.preferred_trans (s : State) (q : QueueId) (a b c : AgentId) (hab : s.preferred q a b = true)
    (hbc : s.preferred q b c = true) : s.preferred q a c = true := by
  have behind := @State.readyBehind_trans s a b c
  unfold State.preferred at *
  cases hp : (s.queue q).params.policy <;>
    simp only [hp, Bool.or_eq_true, Bool.and_eq_true, decide_eq_true_eq] at hab hbc ⊢
  case LONGEST_READY => exact behind hab hbc
  case BEST_LEVEL =>
    rcases hab with hab | ⟨hab, h1⟩ <;> rcases hbc with hbc | ⟨hbc, h2⟩
    · exact .inl (hbc.trans hab)
    · exact .inl (hbc ▸ hab)
    · exact .inl (hab ▸ hbc)
    · exact .inr ⟨hab.trans hbc, behind h1 h2⟩
  case LEAST_OCCUPIED =>
    rcases hab with hab | ⟨hab, h1⟩ <;> rcases hbc with hbc | ⟨hbc, h2⟩
    · exact .inl (hab.trans hbc)
    · exact .inl (hbc ▸ hab)
    · exact .inl (hab ▸ hbc)
    · exact .inr ⟨hab.trans hbc, behind h1 h2⟩

theorem State.preferred_total (s : State) (q : QueueId) (a b : AgentId) (h : a ≠ b) :
    s.preferred q a b = true ∨ s.preferred q b a = true := by
  have behind := s.readyBehind_total h
  unfold State.preferred
  dsimp only
  cases (s.queue q).params.policy <;> simp only [Bool.or_eq_true, Bool.and_eq_true, decide_eq_true_eq]
  case LONGEST_READY => exact behind
  case BEST_LEVEL =>
    rcases Nat.lt_trichotomy ((s.agent a).levelFor (s.queue q)) ((s.agent b).levelFor (s.queue q)) with h | h | h
    · exact .inr (.inl h)
    · exact behind.imp (fun hb => .inr ⟨h, hb⟩) (fun hb => .inr ⟨h.symm, hb⟩)
    · exact .inl (.inl h)
  case LEAST_OCCUPIED =>
    rcases Nat.lt_trichotomy (s.agent a).occupied (s.agent b).occupied with h | h | h
    · exact .inl (.inl h)
    · exact behind.imp (fun hb => .inr ⟨h, hb⟩) (fun hb => .inr ⟨h.symm, hb⟩)
    · exact .inr (.inl h)

/-- The chosen agent goes before every other of the ready list that qualifies (R67). -/
theorem State.chooseAgent_first (s : State) (q : QueueId) (a b : AgentId) (h : s.chooseAgent q = some a)
    (hb : b ∈ s.readyList) (hq : (s.agent b).qualifies (s.queue q) = true) (hne : b ≠ a) :
    s.GoesBefore (s.queue q) a b := by
  rw [← State.preferred_iff]
  refine pickFirst_before (s.preferred_trans q) (s.preferred_total q) h b ?_ hne
  simpa [State.qualifying] using ⟨hb, hq⟩

/-- No agent is chosen exactly when none of the ready list qualifies (R67, R68). -/
theorem State.chooseAgent_none (s : State) (q : QueueId) :
    s.chooseAgent q = none ↔ ∀ a ∈ s.readyList, (s.agent a).qualifies (s.queue q) = false := by
  rw [State.chooseAgent, pickFirst_none, State.qualifying, List.filter_eq_nil_iff]
  simp

/-- Qualification looks at a queue's parameters alone (R65). -/
theorem Agent.qualifies_congr (g : Agent) {r r' : Queue} (h : r.params = r'.params) :
    g.qualifies r = g.qualifies r' := by
  unfold Agent.qualifies
  rw [h]

/-- The policy's order looks at the two agents and at a queue's parameters alone (R67). -/
theorem State.GoesBefore.congr {s t : State} {r r' : Queue} {a b : AgentId} (h : s.GoesBefore r a b)
    (hr : r'.params = r.params) (ha : t.agent a = s.agent a) (hb : t.agent b = s.agent b) : t.GoesBefore r' a b := by
  unfold State.GoesBefore at *
  rw [hr]
  simpa only [ha, hb] using h

/-- The sweep's choice looks at a queue's parameters, the ready list and the agents alone. -/
theorem State.SweepTakes.congr {s u : State} {r r' : Queue} {agents : List AgentId} (h : s.SweepTakes r agents)
    (hr : r'.params = r.params) (hl : u.readyList = s.readyList) (ha : u.agents = s.agents) :
    u.SweepTakes r' agents := by
  have agent : ∀ a, u.agent a = s.agent a := fun a => by unfold State.agent; rw [ha]
  refine ⟨h.nodup, fun i a hi => ?_⟩
  obtain ⟨hmem, hq, first⟩ := h.chosen i a hi
  refine ⟨hl ▸ hmem, by rw [agent, Agent.qualifies_congr _ hr]; exact hq, fun b hb hqb hne => ?_⟩
  rw [agent, Agent.qualifies_congr _ hr] at hqb
  exact (first b (hl ▸ hb) hqb hne).congr hr (agent a) (agent b)

/-- The calls offered are those at the head of the list, each to the agent of its place. -/
theorem getElem?_of_mem_take {α β : Type} {l : List α} {m : List β} {x : α} (h : x ∈ l.take m.length) :
    ∃ (i : Nat) (y : β), l[i]? = some x ∧ m[i]? = some y := by
  obtain ⟨i, hi, rfl⟩ := List.getElem_of_mem h
  have hlen := hi
  rw [List.length_take] at hlen
  exact ⟨i, m[i]'(by omega), by rw [List.getElem_take]; exact List.getElem?_eq_getElem _, List.getElem?_eq_getElem _⟩

/-! ### An offer, record by record -/

/-- A call as an offer to agent `a`, READY since `since`, leaves it (R75, R76). -/
def Call.offeredTo (c : Call) (a : AgentId) (since : Nat) : Call :=
  { c with
    state := .OFFERED, agent := some a, savedReadySince := some since, offerPosted := false, offerDeadline := none
    marks := { c.marks with offer := true } }

/-- An agent as an offer of the call with handle `h` at part time `now` leaves it (R76). -/
def Agent.offeredCall (g : Agent) (h : Handle) (now : Nat) : Agent :=
  { g with state := .OFFERED, call := some h, stateEntry := now }

section
variable (s : State) (q : QueueId) (k : CallId) (a : AgentId)

theorem State.offer_queue (r : QueueId) : (s.offer q k a).queue r =
    if q = r then { s.queue q with waiting := (s.queue q).waiting.erase k } else s.queue r := by
  rw [State.offer_eq]
  simp [State.queue, Vector.getElem_set, Fin.ext_iff]

theorem State.offer_call (j : CallId) : (s.offer q k a).call j =
    if k = j then (s.call k).offeredTo a (s.agent a).readySince else s.call j := by
  rw [State.offer_eq]
  simp [State.call, Vector.getElem_set, Fin.ext_iff, Call.offeredTo]

theorem State.offer_agent (b : AgentId) : (s.offer q k a).agent b =
    if a = b then (s.agent a).offeredCall (s.handle k) s.now else s.agent b := by
  rw [State.offer_eq]
  simp [State.agent, Vector.getElem_set, Fin.ext_iff, Agent.offeredCall]

theorem State.offer_readyList : (s.offer q k a).readyList = s.readyList.erase a := by rw [State.offer_eq]

theorem State.offer_now : (s.offer q k a).now = s.now := by rw [State.offer_eq]; rfl

theorem State.offer_handle (j : CallId) : (s.offer q k a).handle j = s.handle j := by
  rw [State.handle, State.handle, State.offer_call]
  split
  case isTrue h => rw [← h]; rfl
  case isFalse => rfl

theorem State.offer_backlog : ∃ later, (s.offer q k a).notices.backlog = s.notices.backlog ++ later := by
  rw [State.offer_eq]
  dsimp only
  split
  · exact ⟨[], (List.append_nil _).symm⟩
  · exact ⟨_, rfl⟩
end

/-! ### A run of offers -/

/-- From state `s` the head calls of queue `q` have been offered one after another, each to the agent chosen, to the
agents of the list in its order, which has led to state `t` (R68). -/
inductive State.Offers (q : QueueId) : State → List AgentId → State → Prop where
  | nil (s : State) : State.Offers q s [] s
  | cons {s t : State} {k : CallId} {a : AgentId} {rest : List CallId} {agents : List AgentId}
      (head : (s.queue q).waiting = k :: rest) (chosen : s.chooseAgent q = some a)
      (more : State.Offers q (s.offer q k a) agents t) : State.Offers q s (a :: agents) t

/-- A sweep is a run of offers (R68). -/
theorem State.sweepBy_offers (q : QueueId) (n : Nat) (s : State) :
    ∃ agents, State.Offers q s agents (State.sweepBy q n s) := by
  induction n generalizing s with
  | zero => exact ⟨[], .nil s⟩
  | succ n ih =>
    unfold State.sweepBy
    split
    case h_1 => exact ⟨[], .nil s⟩
    case h_2 k rest head =>
      split
      case h_2 => exact ⟨[], .nil s⟩
      case h_1 a chosen =>
        obtain ⟨agents, more⟩ := ih (s.offer q k a)
        exact ⟨a :: agents, .cons head chosen more⟩

namespace State.Offers

variable {q : QueueId} {s t : State} {agents : List AgentId}

/-- A run of offers touches the queues, the calls, the ready list, the agents and the backlog alone. -/
theorem rest (h : State.Offers q s agents t) :
    t = { s with
      queues := t.queues, calls := t.calls, readyList := t.readyList, agents := t.agents
      notices := { s.notices with backlog := t.notices.backlog } } := by
  induction h with
  | nil s => rfl
  | cons _ _ _ ih => rw [State.offer_eq] at ih; rw [ih]

/-- Of its own queue a run of offers takes one head call for each agent (R68). -/
theorem queue_self (h : State.Offers q s agents t) :
    t.queue q = { s.queue q with waiting := (s.queue q).waiting.drop agents.length } := by
  induction h with
  | nil s => rfl
  | cons head _ _ ih =>
    rw [ih, State.offer_queue, if_pos rfl, head, List.erase_cons_head]
    rfl

theorem queue_other (h : State.Offers q s agents t) {r : QueueId} (hr : r ≠ q) : t.queue r = s.queue r := by
  induction h with
  | nil s => rfl
  | cons _ _ _ ih => rw [ih, State.offer_queue, if_neg (Ne.symm hr)]

theorem length_le (h : State.Offers q s agents t) : agents.length ≤ (s.queue q).waiting.length := by
  induction h with
  | nil s => exact Nat.zero_le _
  | cons head _ _ ih =>
    rw [State.offer_queue, if_pos rfl, head, List.erase_cons_head] at ih
    rw [head]
    exact Nat.succ_le_succ ih

/-- The records entered in the backlog stand behind those that were there (R190). -/
theorem backlog (h : State.Offers q s agents t) :
    ∃ later, t.notices.backlog = s.notices.backlog ++ later ∧ (agents = [] → later = []) := by
  induction h with
  | nil s => exact ⟨[], (List.append_nil _).symm, fun _ => rfl⟩
  | @cons s t k a _ _ _ _ _ ih =>
    obtain ⟨later, hl, -⟩ := ih
    obtain ⟨first, hf⟩ := s.offer_backlog q k a
    exact ⟨first ++ later, by rw [hl, hf, List.append_assoc], nofun⟩

theorem mem_ready (h : State.Offers q s agents t) : ∀ a ∈ agents, a ∈ s.readyList := by
  induction h with
  | nil s => simp
  | cons _ chosen _ ih =>
    intro b hb
    rcases List.mem_cons.mp hb with rfl | hb
    · exact (State.chooseAgent_mem _ _ _ chosen).1
    · exact List.mem_of_mem_erase ((State.offer_readyList _ _ _ _) ▸ ih b hb)

/-- A call that is not offered is as it was. -/
theorem call_kept (h : State.Offers q s agents t) {k : CallId} (hk : k ∉ (s.queue q).waiting.take agents.length) :
    t.call k = s.call k := by
  induction h with
  | nil s => rfl
  | cons head _ _ ih =>
    rw [head, List.length_cons, List.take_succ_cons, List.mem_cons, not_or] at hk
    rw [ih, State.offer_call, if_neg (Ne.symm hk.1)]
    rw [State.offer_queue, if_pos rfl, head, List.erase_cons_head]
    exact hk.2

/-- An agent to whom nothing is offered is as it was. -/
theorem agent_kept (h : State.Offers q s agents t) {a : AgentId} (ha : a ∉ agents) : t.agent a = s.agent a := by
  induction h with
  | nil s => rfl
  | cons _ _ _ ih =>
    rw [List.mem_cons, not_or] at ha
    rw [ih ha.2, State.offer_agent, if_neg (Ne.symm ha.1)]

/-- The ready list loses the agents to whom calls are offered, and the others keep their order (R51). -/
theorem readyList (h : State.Offers q s agents t) (hn : s.readyList.Nodup) :
    t.readyList = s.readyList.filter (fun a => decide (a ∉ agents)) := by
  induction h with
  | nil s => simp
  | @cons s t k a _ agents _ _ _ ih =>
    rw [State.offer_readyList] at ih
    rw [ih (hn.erase a), hn.erase_eq_filter, List.filter_filter]
    refine List.filter_congr fun b _ => ?_
    by_cases hb : b = a <;> simp [hb]

theorem agents_nodup (h : State.Offers q s agents t) (hn : s.readyList.Nodup) : agents.Nodup := by
  induction h with
  | nil s => exact .nil
  | cons _ _ more ih =>
    rw [State.offer_readyList] at ih
    refine List.nodup_cons.mpr ⟨fun hmem => ?_, ih (hn.erase _)⟩
    have := more.mem_ready _ hmem
    rw [State.offer_readyList] at this
    exact hn.not_mem_erase this

/-- The call and the agent of each offer name each other (R76). -/
theorem taken (h : State.Offers q s agents t) (hw : (s.queue q).waiting.Nodup) (hn : s.readyList.Nodup) {i : Nat}
    {k : CallId} {a : AgentId} (hk : (s.queue q).waiting[i]? = some k) (ha : agents[i]? = some a) :
    t.call k = (s.call k).offeredTo a (s.agent a).readySince ∧
      t.agent a = (s.agent a).offeredCall (s.handle k) s.now := by
  induction h generalizing i with
  | nil s => simp at ha
  | @cons s t k₀ a₀ tail agents head chosen more ih =>
    have hlist : ((s.offer q k₀ a₀).queue q).waiting = tail := by
      rw [State.offer_queue, if_pos rfl, head, List.erase_cons_head]
    rw [head] at hw hk
    obtain ⟨hk₀, htail⟩ := List.nodup_cons.mp hw
    have hnodup := (State.Offers.cons head chosen more).agents_nodup hn
    obtain ⟨ha₀, -⟩ := List.nodup_cons.mp hnodup
    cases i with
    | zero =>
      cases Option.some.inj hk
      cases Option.some.inj ha
      have hnot : k ∉ ((s.offer q k a).queue q).waiting.take agents.length :=
        fun hmem => hk₀ (hlist ▸ List.mem_of_mem_take hmem)
      exact ⟨by rw [more.call_kept hnot, State.offer_call, if_pos rfl],
        by rw [more.agent_kept ha₀, State.offer_agent, if_pos rfl]⟩
    | succ i =>
      rw [List.getElem?_cons_succ] at hk ha
      have hkk : k₀ ≠ k := fun e => hk₀ (e ▸ List.mem_of_getElem? hk)
      have haa : a₀ ≠ a := fun e => ha₀ (e ▸ List.mem_of_getElem? ha)
      have := ih (hlist ▸ htail) (by rw [State.offer_readyList]; exact hn.erase _) (hlist ▸ hk) ha
      rwa [State.offer_call, if_neg hkk, State.offer_agent, if_neg haa, State.offer_handle, State.offer_now] at this

/-- Each agent taken qualifies and goes first under the policy among those left (R67, R68). -/
theorem takes (h : State.Offers q s agents t) (hn : s.readyList.Nodup) : s.SweepTakes (s.queue q) agents := by
  refine ⟨h.agents_nodup hn, ?_⟩
  induction h with
  | nil s => intro i a ha; simp at ha
  | @cons s t k₀ a₀ tail agents head chosen more ih =>
    intro i a ha
    obtain ⟨hmem, hqual⟩ := s.chooseAgent_mem q a₀ chosen
    cases i with
    | zero =>
      cases Option.some.inj ha
      exact ⟨hmem, hqual, fun b hb hq hne => s.chooseAgent_first q a₀ b chosen hb hq (by simpa using hne)⟩
    | succ i =>
      rw [List.getElem?_cons_succ] at ha
      have kept : ∀ b, b ≠ a₀ → (s.offer q k₀ a₀).agent b = s.agent b := fun b hb => by
        rw [State.offer_agent, if_neg (Ne.symm hb)]
      have params : ((s.offer q k₀ a₀).queue q).params = (s.queue q).params := by
        rw [State.offer_queue, if_pos rfl]
      have haa : a ≠ a₀ := fun e =>
        (List.nodup_cons.mp ((State.Offers.cons head chosen more).agents_nodup hn)).1 (e ▸ List.mem_of_getElem? ha)
      rw [State.offer_readyList] at ih
      obtain ⟨hready, hq, first⟩ := ih (hn.erase _) i a ha
      rw [kept a haa, Agent.qualifies_congr _ params] at hq
      refine ⟨List.mem_of_mem_erase hready, hq, fun b hb hqb hne => ?_⟩
      rw [List.take_succ_cons, List.mem_cons, not_or] at hne
      have := first b ((List.mem_erase_of_ne hne.1).mpr hb)
        (by rw [kept b hne.1, Agent.qualifies_congr _ params]; exact hqb) hne.2
      exact this.congr params.symm (kept a haa).symm (kept b hne.1).symm

/-- A call is offered once or is as it was. -/
theorem call_cases (h : State.Offers q s agents t) (hw : (s.queue q).waiting.Nodup) (hn : s.readyList.Nodup)
    (k : CallId) : t.call k = s.call k ∨ ∃ a since, t.call k = (s.call k).offeredTo a since := by
  by_cases hk : k ∈ (s.queue q).waiting.take agents.length
  · obtain ⟨i, a, hki, hai⟩ := getElem?_of_mem_take hk
    exact .inr ⟨a, _, (h.taken hw hn hki hai).1⟩
  · exact .inl (h.call_kept hk)

/-- An agent that is not READY takes no part. -/
theorem agent_outside (h : State.Offers q s agents t) (hn : s.readyList.Nodup) {a : AgentId} (ha : a ∉ s.readyList) :
    t.agent a = s.agent a ∧ a ∉ t.readyList := by
  refine ⟨h.agent_kept fun m => ha (h.mem_ready a m), ?_⟩
  rw [h.readyList hn]
  exact fun m => ha (List.mem_of_mem_filter m)

theorem agents_length (h : State.Offers q s agents t) (hn : s.readyList.Nodup) : agents.length ≤ 1024 := by
  simpa using (h.agents_nodup hn).length_le_card

theorem queue_rest (h : State.Offers q s agents t) (r : QueueId) :
    t.queue r = { s.queue r with waiting := (t.queue r).waiting } := by
  by_cases hr : r = q
  · subst hr; rw [h.queue_self]
  · rw [h.queue_other hr]

end State.Offers

/-- What a sweep leaves: its run of offers, which is empty where the queue does not distribute and otherwise ends with
the list empty or no agent that qualifies (R68). -/
theorem State.sweep_offers (s : State) (q : QueueId) : ∃ agents, State.Offers q s agents (s.sweep q) ∧
    ((s.queue q).mode.distribute = false → agents = []) ∧
    ((s.queue q).mode.distribute = true → ((s.sweep q).queue q).waiting = [] ∨
      ∀ a ∈ (s.sweep q).readyList, ((s.sweep q).agent a).qualifies ((s.sweep q).queue q) = false) := by
  unfold State.sweep
  split
  case isTrue on =>
    obtain ⟨agents, h⟩ := State.sweepBy_offers q (s.depth q) s
    refine ⟨agents, h, fun off => absurd (on.symm.trans off) (by decide), fun _ => ?_⟩
    exact (State.sweepBy_ends q _ s le_rfl).imp_right (State.chooseAgent_none _ q).mp
  case isFalse off => exact ⟨[], .nil s, fun _ => rfl, fun on => absurd on off⟩

end Sys2Proof.Machine
end

section
/-! PROOFS. The close of a request: the drain, how many notices it posts, and the reply (R177, R190, R191). -/

namespace Sys2Proof.Machine

/-! ### Records that differ in the notices alone -/

namespace Call.SameButNotices

variable {c d : Call} (h : c.SameButNotices d)
include h

theorem state : d.state = c.state := (congrArg Call.state h :)
theorem gen : d.gen = c.gen := (congrArg Call.gen h :)
theorem callerTag : d.callerTag = c.callerTag := (congrArg Call.callerTag h :)
theorem queue : d.queue = c.queue := (congrArg Call.queue h :)
theorem arrival : d.arrival = c.arrival := (congrArg Call.arrival h :)
theorem entry : d.entry = c.entry := (congrArg Call.entry h :)
theorem cls : d.cls = c.cls := (congrArg Call.cls h :)
theorem joinSeq : d.joinSeq = c.joinSeq := (congrArg Call.joinSeq h :)
theorem moveCount : d.moveCount = c.moveCount := (congrArg Call.moveCount h :)
theorem overflowSpent : d.overflowSpent = c.overflowSpent := (congrArg Call.overflowSpent h :)
theorem agent : d.agent = c.agent := (congrArg Call.agent h :)
theorem savedReadySince : d.savedReadySince = c.savedReadySince := (congrArg Call.savedReadySince h :)
theorem talkStart : d.talkStart = c.talkStart := (congrArg Call.talkStart h :)
theorem audio : d.audio = c.audio := (congrArg Call.audio h :)
theorem channel : d.channel = c.channel := (congrArg Call.channel h :)
theorem poolPlayer : d.poolPlayer = c.poolPlayer := (congrArg Call.poolPlayer h :)
theorem nextAnnouncement : d.nextAnnouncement = c.nextAnnouncement := (congrArg Call.nextAnnouncement h :)

end Call.SameButNotices

/-- The AGENT mark has no part in qualification (R65). -/
theorem Agent.SameButMark.qualifies {g h : Agent} (e : g.SameButMark h) (r : Queue) :
    h.qualifies r = g.qualifies r := by
  unfold Agent.SameButMark at e
  rw [e]
  rfl

/-! ### What stands through a request about calls, agents and queues -/

theorem State.SameLibrary.trans {s t u : State} (h : s.SameLibrary t) (h' : t.SameLibrary u) : s.SameLibrary u where
  store := h'.store.trans h.store
  broadcast := h'.broadcast.trans h.broadcast
  programmes := h'.programmes.trans h.programmes
  speech := h'.speech.trans h.speech
  timeBase := h'.timeBase.trans h.timeBase
  setup := ⟨h'.setup.1.trans h.setup.1, h'.setup.2.trans h.setup.2⟩
  address := ⟨h'.address.1.trans h.address.1, h'.address.2.trans h.address.2⟩
  last := ⟨h'.last.1.trans h.last.1, h'.last.2.trans h.last.2⟩
  causes := ⟨h'.causes.1.trans h.causes.1, h'.causes.2.trans h.causes.2⟩
  taken := h'.taken.trans h.taken
  loadReads := h'.loadReads.trans h.loadReads
  frame := ⟨h'.frame.1.trans h.frame.1, h'.frame.2.trans h.frame.2⟩
  pending := h'.pending.trans h.pending

/-- Two states with the same port, clip store, library, time base, load reads, frame and commands, the taken index
and the bus among them. -/
theorem State.sameLibrary_of_rest {s t : State} (h : t = { s with
      queues := t.queues, joinSeq := t.joinSeq, calls := t.calls, readyList := t.readyList, agents := t.agents
      treatment := { s.treatment with pool := t.treatment.pool }
      notices := { s.notices with backlog := t.notices.backlog } }) : s.SameLibrary t := by
  rw [h]
  exact ⟨rfl, rfl, rfl, rfl, rfl, ⟨rfl, rfl⟩, ⟨rfl, rfl⟩, ⟨rfl, rfl⟩, ⟨rfl, rfl⟩, rfl, rfl, ⟨rfl, rfl⟩, rfl⟩

theorem State.Offers.sameLibrary {q : QueueId} {s t : State} {agents : List AgentId} (h : State.Offers q s agents t) :
    s.SameLibrary t := State.sameLibrary_of_rest (by rw [h.rest])

/-! ### One posting -/

/-- How many kinds of notice are pending in a call's marks. -/
def Marks.count (m : Marks) : Nat := m.moved.toNat + m.audio.toNat + m.offer.toNat + m.withdraw.toNat

theorem Marks.count_le (m : Marks) : m.count ≤ 4 := by
  obtain ⟨a, b, c, d⟩ := m
  cases a <;> cases b <;> cases c <;> cases d <;> decide

theorem Marks.first_eq_none (m : Marks) : m.first = none ↔ m.count = 0 := by
  obtain ⟨a, b, c, d⟩ := m
  cases a <;> cases b <;> cases c <;> cases d <;> decide

/-- The mark that is posted first is one of those pending (R191). -/
theorem Marks.count_clear_first (m : Marks) (kind : NoticeKind) (h : m.first = some kind) :
    (m.clear kind).count + 1 = m.count := by
  obtain ⟨a, b, c, d⟩ := m
  cases a <;> cases b <;> cases c <;> cases d <;> cases h <;> rfl

/-- How many kinds of notice are pending in a record. -/
def State.pendingCount (s : State) : RecordRef → Nat
  | .call k => (s.call k).marks.count
  | .agent a => (s.agent a).mark.toNat

theorem State.pendingCount_call (s : State) (k : CallId) : s.pendingCount (.call k) = (s.call k).marks.count := rfl

theorem State.pendingCount_agent (s : State) (a : AgentId) : s.pendingCount (.agent a) = (s.agent a).mark.toNat := rfl

theorem State.pendingCount_le (s : State) (r : RecordRef) : s.pendingCount r ≤ 4 := by
  cases r with
  | call k => exact Marks.count_le _
  | agent a => exact (Bool.toNat_le _).trans (by decide)

theorem State.pendingKind_eq_none (s : State) (r : RecordRef) : s.pendingKind r = none ↔ s.pendingCount r = 0 := by
  cases r with
  | call k => exact Marks.first_eq_none _
  | agent a => simp [State.pendingCount, State.pendingKind]

/-- A posting counts one mark off its own record and leaves those of every other. -/
theorem State.clearPosted_count (s : State) (r x : RecordRef) (kind : NoticeKind) (h : s.pendingKind r = some kind) :
    (s.clearPosted r kind).pendingCount x + (if x = r then 1 else 0) = s.pendingCount x := by
  cases r with
  | agent a =>
    cases x with
    | call k => simp [State.pendingCount, State.clearPosted]
    | agent b =>
      have hm : (s.agent a).mark = true := by
        by_contra hm
        simp [State.pendingKind, hm] at h
      by_cases hab : b = a
      · subst hab; simp [State.pendingCount, State.clearPosted, hm]
      · simp [State.pendingCount, State.clearPosted, hab, Ne.symm hab]
  | call k =>
    have own : ((s.clearPosted (.call k) kind).call k).marks = (s.call k).marks.clear kind := by
      cases kind <;> simp [State.clearPosted]
    have other : ∀ j, j ≠ k → (s.clearPosted (.call k) kind).call j = s.call j := fun j hj => by
      cases kind <;> simp [State.clearPosted, Ne.symm hj]
    have agents : ∀ a, (s.clearPosted (.call k) kind).agent a = s.agent a := fun a => by
      cases kind <;> rfl
    cases x with
    | agent a => simp [State.pendingCount, agents]
    | call j =>
      by_cases hj : j = k
      · subst hj
        simpa [State.pendingCount, own] using Marks.count_clear_first _ _ h
      · simp [State.pendingCount, other j hj, hj]

/-- The state of a posting before its record may leave the backlog (R191). -/
def State.posted (s : State) (r : RecordRef) (kind : NoticeKind) : State :=
  let u := (s.writeSlot (s.noticeWords r kind)).setNotices { s.notices with posted := s.notices.posted + 1 }
  let v := u.clearPosted r kind
  v.setPort { v.port with causes := { v.port.causes with notice := true } }

theorem State.post_eq (s : State) (r : RecordRef) (kind : NoticeKind) :
    s.post r kind =
      if (s.posted r kind).pendingKind r = none then (s.posted r kind).leaveBacklog r else s.posted r kind := rfl

section
variable (s : State) (r : RecordRef) (kind : NoticeKind)

theorem State.clearPosted_rest : s.clearPosted r kind =
    { s with calls := (s.clearPosted r kind).calls, agents := (s.clearPosted r kind).agents } := by
  cases r with
  | agent a => rfl
  | call k => cases kind <;> rfl

theorem State.posted_notices :
    (s.posted r kind).notices = { s.notices with posted := s.notices.posted + 1 } := by
  unfold State.posted
  dsimp only
  rw [State.setPort_notices, State.clearPosted_rest]
  rfl

theorem State.posted_setup : (s.posted r kind).port.setup = s.port.setup := by
  unfold State.posted
  dsimp only
  rw [State.clearPosted_rest]
  rfl

theorem State.posted_count (x : RecordRef) (h : s.pendingKind r = some kind) :
    (s.posted r kind).pendingCount x + (if x = r then 1 else 0) = s.pendingCount x := by
  let u := (s.writeSlot (s.noticeWords r kind)).setNotices { s.notices with posted := s.notices.posted + 1 }
  have before : u.pendingCount x = s.pendingCount x := by cases x <;> rfl
  have after : (s.posted r kind).pendingCount x = (u.clearPosted r kind).pendingCount x := by cases x <;> rfl
  rw [after, ← before]
  exact u.clearPosted_count r x kind (by cases r <;> exact h)

end

theorem State.leaveBacklog_count (s : State) (r x : RecordRef) :
    (s.leaveBacklog r).pendingCount x = s.pendingCount x := by cases x <;> rfl

/-- A record with a pending mark at the backlog's head: one notice is posted, one mark is counted off the record, and
the record leaves when it was the last (R190, R191). -/
theorem State.postHead_posts (s : State) (r : RecordRef) (rest : List RecordRef)
    (hb : s.notices.backlog = r :: rest) (hp : s.pendingCount r ≠ 0) :
    s.postHead.notices.posted = s.notices.posted + 1 ∧ s.postHead.port.causes.notice = true ∧
      s.postHead.port.setup = s.port.setup ∧ s.postHead.notices.taken = s.notices.taken ∧
      (∀ x, s.postHead.pendingCount x + (if x = r then 1 else 0) = s.pendingCount x) ∧
      s.postHead.notices.backlog = if s.pendingCount r = 1 then rest else r :: rest := by
  obtain ⟨kind, hk⟩ := Option.ne_none_iff_exists'.mp (mt (s.pendingKind_eq_none r).mp hp)
  have he : s.postHead = s.post r kind := by simp only [State.postHead, hb, hk]
  have own := s.posted_count r kind r hk
  rw [if_pos rfl] at own
  rw [he, State.post_eq]
  split
  case isTrue h =>
    rw [State.pendingKind_eq_none] at h
    refine ⟨?_, rfl, s.posted_setup r kind, ?_, fun x => ?_, ?_⟩
    · rw [State.leaveBacklog, State.setNotices_notices, State.posted_notices]
    · rw [State.leaveBacklog, State.setNotices_notices, State.posted_notices]
    · rw [State.leaveBacklog_count]; exact s.posted_count r kind x hk
    · rw [if_pos (by omega), State.leaveBacklog, State.setNotices_notices, State.posted_notices, hb]
      exact List.erase_cons_head ..
  case isFalse h =>
    rw [State.pendingKind_eq_none] at h
    refine ⟨?_, rfl, s.posted_setup r kind, ?_, fun x => s.posted_count r kind x hk, ?_⟩
    · rw [State.posted_notices]
    · rw [State.posted_notices]
    · rw [if_neg (by omega), State.posted_notices, hb]

/-- A record without a mark at the backlog's head leaves it, and nothing is posted. -/
theorem State.postHead_skips (s : State) (r : RecordRef) (rest : List RecordRef)
    (hb : s.notices.backlog = r :: rest) (hp : s.pendingCount r = 0) :
    s.postHead = s.setNotices { s.notices with backlog := rest } := by
  have hk := (s.pendingKind_eq_none r).mpr hp
  simp only [State.postHead, hb, hk, State.leaveBacklog, List.erase_cons_head]

/-- A posting takes at most one slot of the ring. -/
theorem State.postHead_room (s : State) (r : RecordRef) (rest : List RecordRef)
    (hb : s.notices.backlog = r :: rest) (hp : s.pendingCount r ≠ 0) : s.ringRoom ≤ s.postHead.ringRoom + 1 := by
  obtain ⟨hposted, -, hsetup, htaken, -, -⟩ := s.postHead_posts r rest hb hp
  have hcount : s.postHead.ringCount = s.ringCount := by unfold State.ringCount; rw [hsetup]
  unfold State.ringRoom State.ringOccupancy
  rw [hcount, hposted, htaken]
  have : (s.notices.posted + 1 - s.notices.taken).toNat ≤ (s.notices.posted - s.notices.taken).toNat + 1 := by
    have e : s.notices.posted + 1 - s.notices.taken = (s.notices.posted - s.notices.taken) + 1 := by ring
    rw [e, BitVec.toNat_add]
    exact (Nat.mod_le _ _).trans le_rfl
  omega

/-! ### The drain as a whole -/

/-- The most notices a drain can post: what is pending in the record at the head, and every kind of the others. -/
def State.postable (s : State) : Nat :=
  match s.notices.backlog with
  | [] => 0
  | r :: rest => s.pendingCount r + 4 * rest.length

theorem State.postable_le (s : State) : s.postable ≤ 4 * s.notices.backlog.length := by
  unfold State.postable
  split
  · exact Nat.zero_le _
  · rename_i r rest hb
    rw [hb, List.length_cons]
    have := s.pendingCount_le r
    omega

/-- A record taken from the head posts at most one notice, and every notice posted is one fewer that can be. -/
theorem State.postHead_postable (s : State) (hb : s.notices.backlog ≠ []) :
    ∃ j, s.postHead.notices.posted = s.notices.posted + BitVec.ofNat 16 j ∧ j + s.postHead.postable ≤ s.postable := by
  obtain ⟨r, rest, hb⟩ := List.exists_cons_of_ne_nil hb
  have before : s.postable = s.pendingCount r + 4 * rest.length := by simp only [State.postable, hb]
  by_cases hp : s.pendingCount r = 0
  · refine ⟨0, by rw [State.postHead_skips s r rest hb hp]; simp, ?_⟩
    have after : s.postHead.postable ≤ 4 * rest.length := by
      have := s.postHead.postable_le
      rwa [State.postHead_skips s r rest hb hp] at this ⊢
    omega
  · obtain ⟨hposted, -, -, -, hcount, hback⟩ := s.postHead_posts r rest hb hp
    refine ⟨1, hposted, ?_⟩
    have own := hcount r
    rw [if_pos rfl] at own
    split at hback
    · have after := s.postHead.postable_le
      rw [hback] at after
      omega
    · have after : s.postHead.postable = s.postHead.pendingCount r + 4 * rest.length := by
        simp only [State.postable, hback]
      omega

theorem State.drainBy_postable (n : Nat) (s : State) :
    ∃ j, (State.drainBy n s).notices.posted = s.notices.posted + BitVec.ofNat 16 j ∧ j ≤ s.postable := by
  induction n generalizing s with
  | zero => exact ⟨0, by simp [State.drainBy], Nat.zero_le _⟩
  | succ n ih =>
    unfold State.drainBy
    split
    case isTrue => exact ⟨0, by simp, Nat.zero_le _⟩
    case isFalse h =>
      have hb : s.notices.backlog ≠ [] := fun e => h (by simp [e])
      obtain ⟨i, hi, hle⟩ := s.postHead_postable hb
      obtain ⟨j, hj, hle'⟩ := ih s.postHead
      exact ⟨i + j, by rw [hj, hi, BitVec.ofNat_add, add_assoc], by omega⟩

theorem State.postHead_cause (s : State) (h : s.port.causes.notice = true) :
    s.postHead.port.causes.notice = true := by
  cases hb : s.notices.backlog with
  | nil => simpa [State.postHead, hb] using h
  | cons r rest =>
    by_cases hp : s.pendingCount r = 0
    · rw [State.postHead_skips s r rest hb hp]; exact h
    · exact (s.postHead_posts r rest hb hp).2.1

theorem State.drainBy_cause (n : Nat) (s : State) (h : s.port.causes.notice = true) :
    (State.drainBy n s).port.causes.notice = true := by
  induction n generalizing s with
  | zero => exact h
  | succ n ih =>
    unfold State.drainBy
    split
    · exact h
    · exact ih _ (s.postHead_cause h)

/-- While the ring has room a drain begins with the record at the head of the backlog (R191). -/
theorem State.drain_begins (s : State) (hb : s.notices.backlog ≠ []) (hroom : 0 < s.ringRoom) :
    ∃ n, s.drain = State.drainBy n s.postHead := by
  obtain ⟨n, hn⟩ : ∃ n, s.ringRoom + s.notices.backlog.length = n + 1 := ⟨_, (Nat.succ_pred_eq_of_pos (by omega)).symm⟩
  refine ⟨n, ?_⟩
  rw [State.drain, hn, State.drainBy, if_neg]
  simp [hb, Nat.ne_of_gt hroom]

/-- A mark at the head of a backlog that has come from this command is posted into a ring with room, and the NOTICE
cause is set (R182, R191). The posted index has moved: a few records cannot take it all the way round. -/
theorem State.drain_posts (s : State) (r : RecordRef) (rest : List RecordRef) (hb : s.notices.backlog = r :: rest)
    (hp : s.pendingCount r ≠ 0) (hroom : 0 < s.ringRoom) (hfew : rest.length < 16000) :
    s.drain.notices.posted ≠ s.notices.posted ∧ s.drain.port.causes.notice = true := by
  obtain ⟨n, hn⟩ := s.drain_begins (by rw [hb]; nofun) hroom
  obtain ⟨hposted, hcause, -⟩ := s.postHead_posts r rest hb hp
  refine ⟨?_, hn ▸ State.drainBy_cause n _ hcause⟩
  obtain ⟨j, hj, hle⟩ := State.drainBy_postable n s.postHead
  have hall : s.postHead.postable ≤ 4 + 4 * rest.length := by
    have := s.postHead.postable_le
    obtain ⟨-, -, -, -, -, hback⟩ := s.postHead_posts r rest hb hp
    have hlen : s.postHead.notices.backlog.length ≤ rest.length + 1 := by
      rw [hback]; split <;> simp
    omega
  rw [hn, hj, hposted]
  intro e
  have := congrArg BitVec.toNat e
  have one : (1 : BitVec 16).toNat = 1 := rfl
  simp only [BitVec.toNat_add, BitVec.toNat_ofNat, one] at this
  omega

/-- A backlog of records with one mark each, none of them twice, is posted whole when the ring has room for it. -/
theorem State.drainBy_single (l : List RecordRef) (n : Nat) (s : State) (hb : s.notices.backlog = l) (hl : l.Nodup)
    (hone : ∀ r ∈ l, s.pendingCount r = 1) (hroom : l.length ≤ s.ringRoom) (hn : l.length ≤ n) :
    (State.drainBy n s).notices.backlog = [] ∧
      (State.drainBy n s).notices.posted = s.notices.posted + BitVec.ofNat 16 l.length ∧
      ∀ x, (State.drainBy n s).pendingCount x = if x ∈ l then 0 else s.pendingCount x := by
  induction l generalizing n s with
  | nil =>
    have : State.drainBy n s = s := by cases n <;> simp [State.drainBy, hb]
    simp [this, hb]
  | cons r rest ih =>
    obtain ⟨m, rfl⟩ : ∃ m, n = m + 1 := ⟨n - 1, by simp only [List.length_cons] at hn; omega⟩
    have hr : s.pendingCount r = 1 := hone r List.mem_cons_self
    have hroom' : 0 < s.ringRoom := by simp only [List.length_cons] at hroom; omega
    obtain ⟨hposted, -, -, -, hcount, hback⟩ := s.postHead_posts r rest hb (by omega)
    have hshort := s.postHead_room r rest hb (by omega)
    rw [if_pos hr] at hback
    obtain ⟨hout, hin⟩ := List.nodup_cons.mp hl
    have hne : ∀ x ∈ rest, x ≠ r := fun x hx e => hout (e ▸ hx)
    have kept : ∀ x, x ≠ r → s.postHead.pendingCount x = s.pendingCount x := fun x hx => by
      have := hcount x; rwa [if_neg hx] at this
    have step : State.drainBy (m + 1) s = State.drainBy m s.postHead := by
      rw [State.drainBy, if_neg]; simp [hb, Nat.ne_of_gt hroom']
    simp only [List.length_cons] at hroom hn
    obtain ⟨h1, h2, h3⟩ := ih m s.postHead hback hin
      (fun x hx => by rw [kept x (hne x hx)]; exact hone x (List.mem_cons_of_mem _ hx)) (by omega) (by omega)
    rw [step]
    refine ⟨h1, ?_, fun x => ?_⟩
    · rw [h2, hposted, List.length_cons, Nat.add_comm rest.length 1, BitVec.ofNat_add, add_assoc]
      rfl
    · rw [h3 x]
      by_cases hx : x = r
      · subst hx
        have := hcount x
        rw [if_pos rfl] at this
        simp [hout]; omega
      · simp [hx, kept x hx]

/-- The same for the drain: its bound is long enough. -/
theorem State.drain_single (s : State) (hl : s.notices.backlog.Nodup)
    (hone : ∀ r ∈ s.notices.backlog, s.pendingCount r = 1) (hroom : s.notices.backlog.length ≤ s.ringRoom) :
    s.drain.notices.backlog = [] ∧
      s.drain.notices.posted = s.notices.posted + BitVec.ofNat 16 s.notices.backlog.length ∧
      ∀ x, s.drain.pendingCount x = if x ∈ s.notices.backlog then 0 else s.pendingCount x :=
  State.drainBy_single _ _ s rfl hl hone hroom (Nat.le_add_left _ _)

/-- A state whose ring and backlog are those of a lawful one has nothing to drain (R190). -/
theorem State.NoticeLaw.drain_eq {s u : State} (h : s.NoticeLaw) (hn : u.notices = s.notices) (hp : u.port = s.port) :
    u.drain = u := by
  by_cases hb : s.notices.backlog = []
  · exact u.drain_empty (by rw [hn, hb])
  · have hfull := h.full hb
    refine u.drain_full ?_
    unfold State.ringOccupancy State.ringCount at hfull
    unfold State.ringRoom State.ringOccupancy State.ringCount
    rw [hn, hp, hfull, Nat.sub_self]

theorem State.drainBy_loadReads (n : Nat) (s : State) : (State.drainBy n s).loadReads = s.loadReads := by
  have post : ∀ (s : State) r kind, (s.post r kind).loadReads = s.loadReads := fun s r kind => by
    rw [State.post_eq]
    have : (s.posted r kind).loadReads = s.loadReads := by
      unfold State.posted; dsimp only; rw [State.setPort_loadReads, State.clearPosted_rest]; rfl
    split <;> exact this
  induction n generalizing s with
  | zero => rfl
  | succ n ih =>
    unfold State.drainBy
    split
    · rfl
    · rw [ih]
      unfold State.postHead
      split
      · rfl
      · split
        · exact post s _ _
        · rfl

/-! ### The close of a request -/

/-- State `t` is state `u` after its notices have been drained and its reply handed to the port (R177, R191). -/
structure State.Closes (u t : State) : Prop where
  notices : t.notices = u.drain.notices
  bus : t.bus = u.drain.bus
  cause : t.port.causes = u.drain.port.causes
  queues : t.queues = u.queues
  joinSeq : t.joinSeq = u.joinSeq
  readyList : t.readyList = u.readyList
  treatment : t.treatment = u.treatment
  calls : ∀ k, t.call k = u.drain.call k
  agents : ∀ a, t.agent a = u.drain.agent a
  library : u.SameLibrary t

/-- A request with setup present closes with its drain and its reply. -/
theorem State.closes (u : State) (cls : ReplyClass) (reason : Reason) (payload : List Word) (code : BitVec 8)
    (tag : Tag) (h : u.port.setup.isSome = true) :
    ∃ t, u.drain.toReply (Answer.reply ⟨cls, reason, 0, payload, []⟩ code tag) = t ∧ u.Closes t ∧
      t.Replies cls reason code tag payload := by
  refine ⟨_, rfl, ?_⟩
  have only := u.drain_only
  have hset : u.drain.port.setup.isSome = true := by rw [only.port]; exact h
  rw [State.toReply_present _ _ hset]
  refine ⟨⟨rfl, rfl, rfl, only.queues, only.joinSeq, only.readyList, only.treatment, fun _ => rfl, fun _ => rfl, ?_⟩,
    rfl, rfl⟩
  have port := only.port
  exact ⟨only.store, congrArg Treatment.broadcast only.treatment, congrArg Treatment.programmes only.treatment,
    congrArg Treatment.speech only.treatment, only.timeBase,
    ⟨(congrArg Port.setup port :), (congrArg Port.enables port :)⟩,
    ⟨(congrArg Port.address port :), (congrArg Port.overrun port :)⟩,
    ⟨(congrArg Port.lastClass port :), (congrArg Port.lastReason port :)⟩,
    ⟨(congrArg (·.causes.reply) port :), (congrArg (·.causes.clock) port :)⟩, only.taken, State.drainBy_loadReads _ _,
    ⟨only.frame, only.framesSent⟩, only.pending⟩

namespace State.Closes

variable {u t : State} (h : u.Closes t)
include h

theorem call_same (k : CallId) : (u.call k).SameButNotices (t.call k) := h.calls k ▸ u.drain_only.calls k

theorem agent_same (a : AgentId) : (u.agent a).SameButMark (t.agent a) := h.agents a ▸ u.drain_only.agents a

theorem call_of {k : CallId} {c : Call} (e : u.call k = c) : c.SameButNotices (t.call k) := e ▸ h.call_same k

theorem agent_of {a : AgentId} {g : Agent} (e : u.agent a = g) : g.SameButMark (t.agent a) := e ▸ h.agent_same a

theorem queue (q : QueueId) : t.queue q = u.queue q := by unfold State.queue; rw [h.queues]

theorem pool (p : PoolId) : t.pool p = u.pool p := by unfold State.pool; rw [h.treatment]

end State.Closes

end Sys2Proof.Machine
end

section
/-! PROOFS. The refusals of identifiers, codes, levels and lists out of range, of undefined queues and of stale handles
(section 2.2 of spec 00, R6, R8, R12, R21, R34, R43, R46, R47, R52, R54, R56, R60, R62, R80). -/

namespace Sys2Proof.Machine

/-! ### Refusals of identifiers, codes and handles -/

/-- A Q_DEFINE whose words hold a code, an identifier or a level out of range, or its own queue as overflow target, has
no definition (R12). -/
theorem qDefineIds_eq_none {q : QueueId} {p : QDefineWords} (hq : idOf 64 p.queue = some q)
    (h : 64 ≤ p.skill.toNat ∨ p.minLevel = 0 ∨ 9 < p.minLevel.toNat ∨ 3 ≤ p.policy.toNat ∨ 4 ≤ p.announceMode.toNat ∨
      (p.overflowTarget ≠ 0xFFFFFFFF ∧ 64 ≤ p.overflowTarget.toNat) ∨ p.overflowTarget = p.queue ∨
      (p.greeting ≠ 0xFFFFFFFF ∧ 256 ≤ p.greeting.toNat) ∨
      (p.programme ≠ 0xFFFFFFFF ∧ 16 ≤ p.programme.toNat)) : qDefineIds q p = none := by
  unfold qDefineIds
  split
  case h_2 => rfl
  case h_1 skill policy target greeting programme mode hskill hpolicy htarget hgreeting hprogramme hmode =>
    rw [if_neg]
    rintro ⟨hlow, hhigh, hown⟩
    rcases h with h | h | h | h | h | h | h | h | h
    · rw [idOf_eq_none.mpr h] at hskill; cases hskill
    · rw [h] at hlow; exact absurd hlow (by decide)
    · omega
    · rw [policyOf_eq_none h] at hpolicy; cases hpolicy
    · rw [announceModeOf_eq_none h] at hmode; cases hmode
    · rw [optIdOf_eq_none h] at htarget; cases htarget
    · have hne : p.queue ≠ Config.absent := fun e => by
        rw [e] at hq; exact absurd (hq.symm.trans (by decide : idOf 64 Config.absent = none)) (by simp)
      rw [h, optIdOf, if_neg hne, hq] at htarget
      exact hown (Option.some.inj htarget).symm
    · rw [optIdOf_eq_none h] at hgreeting; cases hgreeting
    · rw [optIdOf_eq_none h] at hprogramme; cases hprogramme

/-- A request that names no queue, or names a queue that is not defined, is refused (spec 00 section 2.2, R8). -/
theorem queueRequests_refuse_range {s : State} (hs : s.Taking) (tag : Tag) (w x y z : Word) (p : QDefineWords)
    (h : 64 ≤ w.toNat) :
    exec (.qDefine tag { p with queue := w }) s = .next (s.replying .REFUSED .BAD_VALUE 0x10 tag []) ∧
    exec (.qMode tag w x) s = .next (s.replying .REFUSED .BAD_VALUE 0x11 tag []) ∧
    exec (.qQuery tag w) s = .next (s.replying .REFUSED .BAD_VALUE 0x12 tag []) ∧
    exec (.qList tag w x y z) s = .next (s.replying .REFUSED .BAD_VALUE 0x13 tag []) ∧
    exec (.cArrive tag x w y) s = .next (s.replying .REFUSED .BAD_VALUE 0x20 tag []) := by
  have hid : idOf 64 w = none := idOf_eq_none.mpr h
  refine ⟨hs.answers rfl ?_, hs.answers rfl ?_, hs.answers rfl ?_, hs.answers rfl ?_, hs.answers rfl ?_⟩
  · simp only [State.qDefineBody, hid]; rfl
  · simp only [State.qModeBody, hid]; rfl
  · simp only [State.qQueryBody, hid]; rfl
  · simp only [State.qListBody, hid]; rfl
  · simp only [State.cArriveBody, hid]; rfl

theorem queueRequests_refuse_undefined {s : State} (hs : s.Taking) (tag : Tag) (x y z : Word) (q : QueueId)
    (h : (s.queue q).defined = false) :
    (x.toNat ≤ 3 →
      exec (.qMode tag (word q.val) x) s = .next (s.replying .REFUSED .BAD_QUEUE 0x11 tag [])) ∧
    exec (.qQuery tag (word q.val)) s = .next (s.replying .REFUSED .BAD_QUEUE 0x12 tag []) ∧
    exec (.qList tag (word q.val) x y z) s = .next (s.replying .REFUSED .BAD_QUEUE 0x13 tag []) ∧
    exec (.cArrive tag x (word q.val) y) s = .next (s.replying .REFUSED .BAD_QUEUE 0x20 tag []) := by
  have hid : idOf 64 (word q.val) = some q := idOf_word (by decide) q
  refine ⟨fun hx => hs.answers rfl ?_, hs.answers rfl ?_, hs.answers rfl ?_, hs.answers rfl ?_⟩
  · obtain ⟨m, hm⟩ := modeOf_isSome hx
    simp only [State.qModeBody, hid, hm, h]; rfl
  · simp only [State.qQueryBody, hid, h]; rfl
  · simp only [State.qListBody, hid, h]; rfl
  · simp only [State.cArriveBody, hid, h]; rfl

/-- A request that names no agent is refused (spec 00 section 2.2, R46). -/
theorem agentRequests_refuse_range {s : State} (hs : s.Taking) (tag : Tag) (w x y z : Word) (l : List Word)
    (hl : l.length ≤ 58) (h : 1024 ≤ w.toNat) :
    exec (.aLogin tag w x y z l) s = .next (s.replying .REFUSED .BAD_VALUE 0x30 tag []) ∧
    exec (.aLogout tag w) s = .next (s.replying .REFUSED .BAD_VALUE 0x31 tag []) ∧
    exec (.aSet tag w x y z) s = .next (s.replying .REFUSED .BAD_VALUE 0x32 tag []) ∧
    exec (.aSkills tag w l) s = .next (s.replying .REFUSED .BAD_VALUE 0x33 tag []) ∧
    exec (.aQuery tag w) s = .next (s.replying .REFUSED .BAD_VALUE 0x34 tag []) ∧
    exec (.aCounters tag w x) s = .next (s.replying .REFUSED .BAD_VALUE 0x35 tag []) ∧
    exec (.wExtend tag w x) s = .next (s.replying .REFUSED .BAD_VALUE 0x38 tag []) ∧
    exec (.wEnd tag w) s = .next (s.replying .REFUSED .BAD_VALUE 0x39 tag []) := by
  have hid : idOf 1024 w = none := idOf_eq_none.mpr h
  refine ⟨hs.answers (blockTest_aLogin tag w x y z l hl) ?_, hs.answers rfl ?_, hs.answers rfl ?_,
    hs.answers (blockTest_aSkills tag w l hl) ?_, hs.answers rfl ?_, hs.answers rfl ?_, hs.answers rfl ?_,
    hs.answers rfl ?_⟩
  · simp only [State.aLoginBody, hid]; rfl
  · simp only [State.aLogoutBody, hid]; rfl
  · simp only [State.aSetBody, hid]; rfl
  · simp only [State.aSkillsBody, hid]; rfl
  · simp only [State.aQueryBody, hid]; rfl
  · simp only [State.aCountersBody, hid]; rfl
  · simp only [State.wExtendBody, hid]; rfl
  · simp only [State.wEndBody, hid]; rfl

/-- A request with a stale handle is refused STALE (R21). -/
theorem callRequests_refuse_stale {s : State} (hs : s.Taking) (tag : Tag) (w x : Word)
    (h : s.live (handleOf w) = none) :
    exec (.cAnswer tag w x) s = .next (s.replying .REFUSED .STALE 0x21 tag []) ∧
    exec (.cEnd tag w) s = .next (s.replying .REFUSED .STALE 0x22 tag []) ∧
    exec (.cMove tag w x) s = .next (s.replying .REFUSED .STALE 0x23 tag []) ∧
    exec (.cClass tag w x) s = .next (s.replying .REFUSED .STALE 0x24 tag []) ∧
    exec (.cQuery tag w) s = .next (s.replying .REFUSED .STALE 0x25 tag []) := by
  refine ⟨hs.answers rfl ?_, hs.answers rfl ?_, hs.answers rfl ?_, hs.answers rfl ?_, hs.answers rfl ?_⟩
  · simp only [State.cAnswerBody, h]; rfl
  · simp only [State.cEndBody, h]; rfl
  · simp only [State.cMoveBody, h]; rfl
  · simp only [State.cClassBody, h]; rfl
  · simp only [State.cQueryBody, h]; rfl

/-- A C_ANSWER whose agent, and a C_MOVE whose queue, is out of range is refused BAD_VALUE (R34, R80). -/
theorem callRequests_refuse_range {s : State} (hs : s.Taking) (tag : Tag) (x : Word) (k : CallId)
    (hk : (s.call k).state ≠ .FREE) :
    (1024 ≤ x.toNat → exec (.cAnswer tag (s.handle k).word x) s =
      .next (s.replying .REFUSED .BAD_VALUE 0x21 tag [])) ∧
    (64 ≤ x.toNat → exec (.cMove tag (s.handle k).word x) s =
      .next (s.replying .REFUSED .BAD_VALUE 0x23 tag [])) := by
  refine ⟨fun h => hs.answers rfl ?_, fun h => hs.answers rfl ?_⟩
  · simp only [State.cAnswerBody, s.live_handle k hk, idOf_eq_none.mpr h]; rfl
  · simp only [State.cMoveBody, s.live_handle k hk, idOf_eq_none.mpr h]; rfl

/-- An A_LOGIN with a skill list, a station or an initial state that is not valid is refused (R46, R47, R52, R54). -/
theorem aLogin_refuses {s : State} (hs : s.Taking) (tag : Tag) (w x y z : Word) (l : List Word) (hl : l.length ≤ 58)
    (h : skillsOf l = none ∨ 65535 < x.toNat ∨ targetOf y z = none) :
    exec (.aLogin tag w x y z l) s = .next (s.replying .REFUSED .BAD_VALUE 0x30 tag []) := by
  refine hs.answers (blockTest_aLogin tag w x y z l hl) ?_
  unfold State.aLoginBody
  split
  case h_2 => rfl
  case h_1 hskills htarget =>
    rcases h with h | h | h
    · rw [h] at hskills; cases hskills
    · rw [if_pos h]; rfl
    · rw [h] at htarget; cases htarget

/-- An A_SKILLS with a skill list that is not valid is refused (R62). -/
theorem aSkills_refuses {s : State} (hs : s.Taking) (tag : Tag) (w : Word) (l : List Word) (hl : l.length ≤ 58)
    (h : skillsOf l = none) :
    exec (.aSkills tag w l) s = .next (s.replying .REFUSED .BAD_VALUE 0x33 tag []) := by
  refine hs.answers (blockTest_aSkills tag w l hl) ?_
  unfold State.aSkillsBody
  split
  case h_2 => rfl
  case h_1 hskills => rw [h] at hskills; cases hskills

/-- An A_SET with a target or a reason out of range is refused, with the agent's items as they stand (R56). -/
theorem aSet_refuses {s : State} (hs : s.Taking) (tag : Tag) (x y z : Word) (a : AgentId)
    (h : targetOf x y = none) :
    exec (.aSet tag (word a.val) x y z) s =
      .next (s.replying .REFUSED .BAD_VALUE 0x32 tag (changeItems (s.agent a) (s.agent a))) := by
  refine hs.answers rfl ?_
  simp only [State.aSetBody, idOf_word (show 1024 ≤ 4294967296 by decide) a, h]; rfl

/-- A Q_MODE with a code above the four modes is refused BAD_VALUE (R6). -/
theorem qMode_refuses {s : State} (hs : s.Taking) (tag : Tag) (w x : Word) (h : 3 < x.toNat) :
    exec (.qMode tag w x) s = .next (s.replying .REFUSED .BAD_VALUE 0x11 tag []) := by
  refine hs.answers rfl ?_
  unfold State.qModeBody
  split
  case h_2 => rfl
  case h_1 hmode => rw [modeOf_eq_none h] at hmode; cases hmode

/-- A Q_DEFINE whose words have no definition is refused BAD_VALUE (R12). -/
theorem qDefine_refuses {s : State} (hs : s.Taking) (tag : Tag) (p : QDefineWords)
    (h : ∀ q, idOf 64 p.queue = some q → qDefineIds q p = none) :
    exec (.qDefine tag p) s = .next (s.replying .REFUSED .BAD_VALUE 0x10 tag []) := by
  refine hs.answers rfl ?_
  unfold State.qDefineBody
  split
  case h_1 => rfl
  case h_2 q hq => simp only [qDefineOf, h q hq]; rfl

/-- Settles O21: each request tests its identifiers, codes and handles before it does anything, and answers a
refusal. -/
theorem identifiersAreRefusedNotClamped : Obligations.IdentifiersAreRefusedNotClamped := by
  intro tag w x y z l p s hs hl
  refine ⟨queueRequests_refuse_range hs tag w x y z p, ?_, qMode_refuses hs tag w x,
    agentRequests_refuse_range hs tag w x y z l hl, ?_, callRequests_refuse_range hs tag x, ?_, ?_⟩
  · rintro q rfl h
    exact queueRequests_refuse_undefined hs tag x y z q h
  · intro k hk h
    exact callRequests_refuse_stale hs tag w x (s.live_stale w k hk h)
  · refine ⟨fun h => aLogin_refuses hs tag w x y z l hl ?_, fun h => aSkills_refuses hs tag w l hl
      (skillsOf_eq_none h), ?_⟩
    · exact h.imp skillsOf_eq_none (Or.imp_right targetOf_eq_none)
    · rintro a rfl h
      rw [aSet_refuses hs tag x y z a (targetOf_eq_none h)]
      unfold changeItems
      cases (s.agent a).pending <;> rfl
  · exact fun h => qDefine_refuses hs tag p fun q hq => qDefineIds_eq_none hq h

end Sys2Proof.Machine
end

section
/-! PROOFS. Q_MODE: the mode written, and the sweep of a queue that gains DISTRIBUTE (R6, R67, R68). -/

namespace Sys2Proof.Machine

/-! ### Q_MODE -/

/-- The mode of a queue written without a sweep (R6). -/
theorem State.changeMode_keeps (s : State) (q : QueueId) (m : QMode)
    (h : ¬ ((s.queue q).mode.distribute = false ∧ m.distribute = true)) :
    s.changeMode q m = s.setQueue q { s.queue q with mode := m } := by
  unfold State.changeMode
  rw [if_neg]
  simpa using h

/-- The mode of a queue written with the sweep of a queue that gains DISTRIBUTE (R6). -/
theorem State.changeMode_sweeps (s : State) (q : QueueId) (m : QMode)
    (h : (s.queue q).mode.distribute = false) (hm : m.distribute = true) :
    s.changeMode q m = (s.setQueue q { s.queue q with mode := m }).sweep q := by
  unfold State.changeMode
  rw [if_pos]
  simp [h, hm]

/-- Which changes of mode gain DISTRIBUTE (R3, Table 1-3). -/
theorem QMode.gains_iff (old new : QMode) :
    ((old = .SHUT ∨ old = .STAGING) ∧ (new = .OPEN ∨ new = .DRAINING)) ↔
      (old.distribute = false ∧ new.distribute = true) := by
  cases old <;> cases new <;> decide

/-- Settles O17: the mode is written, and a queue that gains DISTRIBUTE is swept, by a run of offers. -/
theorem qModeWritesAndSweeps : Obligations.QModeWritesAndSweeps := by
  intro tag q m s hs hlaw hdef
  have run : exec (.qMode tag (word q.val) (word m.code)) s = .next ((s.changeMode q m).drain.toReply
      (Answer.reply (.done [word (s.queue q).mode.code]) 0x11 tag)) := by
    refine (hs.takes _ rfl).trans ?_
    simp only [State.qModeBody, idOf_word (show 64 ≤ 4294967296 by decide), modeOf_code, hdef, if_true]
  dsimp only
  rw [run, QMode.gains_iff]
  refine ⟨fun h => ?_, fun ⟨hold, hnew⟩ => ?_⟩
  · have quiet : (s.changeMode q m).drain = s.changeMode q m := by
      rw [s.changeMode_keeps q m h]
      exact hlaw.drain_eq rfl rfl
    rw [quiet, s.changeMode_keeps q m h]
    exact congrArg Host.Outcome.next (State.toReply_replying _ .DONE .NONE _ 0x11 tag hs.2)
  · rw [s.changeMode_sweeps q m hold hnew]
    let u := s.setQueue q { s.queue q with mode := m }
    have uq : u.queue q = { s.queue q with mode := m } := by simp [u]
    obtain ⟨agents, run, -, ends⟩ := u.sweep_offers q
    obtain ⟨t, ht, closes, replies⟩ := (u.sweep q).closes .DONE .NONE [word (s.queue q).mode.code] 0x11 tag
      (by rw [run.rest]; exact hs.2)
    refine ⟨t, agents.length, congrArg _ ht, replies, ?_, ?_, ?_, ?_, ?_, ?_, ?_, ?_, ?_, ?_, ?_⟩
    · rw [closes.queue, run.queue_self, uq]
    · simpa only [uq] using run.length_le
    · intro r hr
      rw [closes.queue, run.queue_other hr]
      simp [u, Ne.symm hr]
    · intro agree
      have hw : (u.queue q).waiting.Nodup := by rw [uq]; exact agree.listNodup q
      refine ⟨agents, rfl, (run.takes agree.readyNodup).congr (by rw [uq]) rfl rfl,
        closes.readyList.trans (run.readyList agree.readyNodup), fun i k a hk ha => ?_⟩
      obtain ⟨hcall, hagent⟩ := run.taken hw agree.readyNodup (by rw [uq]; exact hk) ha
      have same := closes.call_of hcall
      exact ⟨same.state, same.agent, same.savedReadySince, closes.agent_of hagent⟩
    · refine (ends (by rw [uq]; exact hnew)).imp (fun h => by rw [closes.queue]; exact h) fun h a ha => ?_
      rw [closes.readyList] at ha
      rw [closes.queue, (closes.agent_same a).qualifies]
      exact h a ha
    · intro agree k hk
      obtain ⟨i, a, hk, ha⟩ := getElem?_of_mem_take hk
      have hw : (u.queue q).waiting.Nodup := by rw [uq]; exact agree.listNodup q
      exact (closes.call_of (run.taken hw agree.readyNodup (by rw [uq]; exact hk) ha).1).state
    · intro _ k hk
      exact closes.call_of (run.call_kept (by rw [uq]; exact hk))
    · intro agree a ha
      exact closes.agent_of (run.agent_kept fun hmem => ha ((agree.ready a).mp (run.mem_ready a hmem)))
    · rw [closes.joinSeq, run.rest]; rfl
    · rw [closes.treatment, run.rest]; rfl
    · exact (State.sameLibrary_of_rest rfl).trans (run.sameLibrary.trans closes.library)

end Sys2Proof.Machine
end

section
/-! PROOFS. What a Q_DEFINE does to its queue and to the queue's calls before the sweep (R14 to R18, R25). -/

namespace Sys2Proof.Machine

/-! ### The order of R25 -/

theorem notAfter_iff (boost : Nat) (a b : Call) : notAfter boost a b = true ↔
    a.effectiveEntry boost < b.effectiveEntry boost ∨
      (a.effectiveEntry boost = b.effectiveEntry boost ∧ a.joinSeq ≤ b.joinSeq) := by
  simp [notAfter]

theorem notAfter_trans {boost : Nat} {a b c : Call} (hab : notAfter boost a b = true)
    (hbc : notAfter boost b c = true) : notAfter boost a c = true := by
  rw [notAfter_iff] at *
  omega

theorem notAfter_total {boost : Nat} {a b : Call} (h : notAfter boost a b = false) : notAfter boost b a = true := by
  rw [← Bool.not_eq_true, notAfter_iff] at h
  rw [notAfter_iff]
  omega

/-- A call inserted at its keyed place keeps a list in order (R25). -/
theorem State.keyedInsert_sorted (s : State) (boost : Nat) (k : CallId) (l : List CallId)
    (h : l.Pairwise fun a b => notAfter boost (s.call a) (s.call b) = true) :
    (s.keyedInsert boost k l).Pairwise fun a b => notAfter boost (s.call a) (s.call b) = true := by
  induction l with
  | nil => exact List.pairwise_singleton _ _
  | cons y ys ih =>
    obtain ⟨hy, hys⟩ := List.pairwise_cons.mp h
    unfold State.keyedInsert insertWhere
    split
    case isTrue stop =>
      have hky : notAfter boost (s.call k) (s.call y) = true := notAfter_total (by simpa using stop)
      refine List.pairwise_cons.mpr ⟨fun z hz => ?_, h⟩
      rcases List.mem_cons.mp hz with rfl | hz
      · exact hky
      · exact notAfter_trans hky (hy z hz)
    case isFalse go =>
      refine List.pairwise_cons.mpr ⟨fun z hz => ?_, ih hys⟩
      rcases List.mem_cons.mp ((insertWhere_perm _ k ys).subset hz) with rfl | hz
      · simpa using go
      · exact hy z hz

/-- A list put in order entry by entry (R15, R25). -/
def State.inOrder (s : State) (boost : Nat) (l : List CallId) : List CallId :=
  l.foldl (fun l k => s.keyedInsert boost k l) []

theorem State.foldl_keyedInsert_perm (s : State) (boost : Nat) (l m : List CallId) :
    (l.foldl (fun l k => s.keyedInsert boost k l) m).Perm (l ++ m) := by
  induction l generalizing m with
  | nil => exact .refl _
  | cons k l ih => exact (ih _).trans (((s.keyedInsert_perm boost k m).append_left l).trans List.perm_middle)

theorem State.inOrder_perm (s : State) (boost : Nat) (l : List CallId) : (s.inOrder boost l).Perm l := by
  simpa [State.inOrder] using s.foldl_keyedInsert_perm boost l []

theorem State.inOrder_sorted (s : State) (boost : Nat) (l : List CallId) :
    (s.inOrder boost l).Pairwise fun a b => notAfter boost (s.call a) (s.call b) = true := by
  unfold State.inOrder
  suffices ∀ m : List CallId, (m.Pairwise fun a b => notAfter boost (s.call a) (s.call b) = true) →
      (l.foldl (fun l k => s.keyedInsert boost k l) m).Pairwise
        fun a b => notAfter boost (s.call a) (s.call b) = true from this [] .nil
  induction l with
  | nil => exact fun _ h => h
  | cons k l ih => exact fun m h => ih _ (s.keyedInsert_sorted boost k m h)

/-! ### One change made to each call of a list -/

theorem State.setCall_self (s : State) (k : CallId) : s.setCall k (s.call k) = s := by
  simp [State.setCall, State.call]

section
variable {g : State → CallId → State} {f : Nat → Call → Call}
  (hg : ∀ s k, g s k = s.setCall k (f s.now (s.call k)))
include hg

/-- A change of each call of a list touches the calls alone. -/
theorem State.foldl_setCall_rest (l : List CallId) (s : State) :
    l.foldl g s = { s with calls := (l.foldl g s).calls } := by
  induction l generalizing s with
  | nil => rfl
  | cons k l ih => rw [List.foldl_cons, hg]; exact (ih _).trans rfl

/-- Each call of the list is changed once, and no other is. -/
theorem State.foldl_setCall_call (l : List CallId) (hl : l.Nodup) (s : State) (j : CallId) :
    (l.foldl g s).call j = if j ∈ l then f s.now (s.call j) else s.call j := by
  induction l generalizing s with
  | nil => simp
  | cons k l ih =>
    obtain ⟨hk, hl⟩ := List.nodup_cons.mp hl
    rw [List.foldl_cons, hg, ih hl, State.call_setCall, State.now_setCall]
    by_cases hj : k = j
    · subst hj; simp [hk]
    · simp [hj, Ne.symm hj]
end

/-- A change of announce mode or interval, on the record of one call (R17, Table 1-8). -/
def Call.rescheduled (c : Call) (before after : Bool) (interval now : Nat) : Call :=
  { c with
    nextAnnouncement :=
      if before && !after then none
      else if !before && after && decide ((c.audio = .MUSIC ∨ c.audio = .SILENT) ∧ c.nextAnnouncement = none) then
        some (deadlineAt now (now + interval))
      else c.nextAnnouncement }

theorem State.reschedule_eq (before after : Bool) (interval : Nat) (s : State) (k : CallId) :
    State.reschedule before after interval s k =
      s.setCall k ((s.call k).rescheduled before after interval s.now) := by
  unfold State.reschedule Call.rescheduled
  cases before <;> cases after
  case false.false => exact (s.setCall_self k).symm
  case true.true => exact (s.setCall_self k).symm
  case true.false => rfl
  case false.true =>
    by_cases h : ((s.call k).audio = .MUSIC ∨ (s.call k).audio = .SILENT) ∧ (s.call k).nextAnnouncement = none
    · simp [h]
    · simp only [Bool.not_false, Bool.and_self, Bool.not_true, Bool.and_false, h, decide_false, if_true, if_false,
        Bool.false_eq_true]
      exact (s.setCall_self k).symm

/-- Overflow spent cleared on the record of one call (R18). -/
def Call.unspent (c : Call) : Call := { c with overflowSpent := false }

theorem State.unspend_eq (s : State) (k : CallId) : State.unspend s k = s.setCall k (s.call k).unspent := rfl

/-! ### A change of programme -/

/-- A change to programme `pr` gives the call another channel (R16). -/
def Call.retunes (c : Call) (pr : Option ProgrammeId) : Bool :=
  c.audio == .MUSIC || (c.audio == .SILENT && pr.isSome)

/-- The record of a call whose channel changes to programme `pr`, or to none, its AUDIO marked (R16). -/
def Call.retuned (c : Call) (pr : Option ProgrammeId) : Call :=
  { c with
    audio := if pr.isSome then .MUSIC else .SILENT, channel := pr.map (·.val), marks := { c.marks with audio := true } }

theorem State.retune_eq (pr : Option ProgrammeId) (s : State) (k : CallId) :
    State.retune pr s k =
      if (s.call k).retunes pr then
        { s with
          calls := s.calls.set k.val ((s.call k).retuned pr)
          notices := { s.notices with
            backlog := if .call k ∈ s.notices.backlog then s.notices.backlog
              else s.notices.backlog ++ [.call k] } }
      else s := by
  have mark : ∀ c : Call, c.marks = (s.call k).marks →
      (s.setCall k c).markCall k .AUDIO =
        { s with
          calls := s.calls.set k.val { c with marks := { (s.call k).marks with audio := true } }
          notices := { s.notices with
            backlog := if .call k ∈ s.notices.backlog then s.notices.backlog
              else s.notices.backlog ++ [.call k] } } := fun c hc => by
    simp [State.markCall_eq, State.setCall, State.call, Marks.set, hc]
  unfold State.retune Call.retunes Call.retuned
  cases h : (s.call k).audio <;> cases pr <;> simp [mark, h]

/-- The backlog after a change of programme has reached the calls of a list: those marked now stand behind those that
were there, in the list's order (R190). -/
def State.backlogRetuned (s : State) (pr : Option ProgrammeId) (l : List CallId) : List RecordRef :=
  s.notices.backlog ++
    (l.filter fun k => (s.call k).retunes pr && decide (RecordRef.call k ∉ s.notices.backlog)).map .call

/-- A change of programme touches the calls and the backlog alone (R16). -/
theorem State.foldl_retune_rest (pr : Option ProgrammeId) (l : List CallId) (s : State) :
    l.foldl (State.retune pr) s =
      { s with
        calls := (l.foldl (State.retune pr) s).calls
        notices := { s.notices with backlog := (l.foldl (State.retune pr) s).notices.backlog } } := by
  induction l generalizing s with
  | nil => rfl
  | cons k l ih =>
    rw [List.foldl_cons, State.retune_eq]
    split
    · exact (ih _).trans rfl
    · exact ih s

/-- The call reached by a change of programme (R16). -/
theorem State.retune_call (pr : Option ProgrammeId) (s : State) (k j : CallId) :
    (State.retune pr s k).call j =
      if j = k ∧ (s.call j).retunes pr = true then (s.call j).retuned pr else s.call j := by
  rw [State.retune_eq]
  by_cases hj : j = k
  · subst hj
    split <;> simp_all [State.call]
  · have : k.val ≠ j.val := fun e => hj (Fin.ext e.symm)
    split <;> simp [hj, State.call, this]

/-- The calls of a list after a change of programme has reached each once, and the backlog (R16, R190). -/
theorem State.foldl_retune (pr : Option ProgrammeId) (l : List CallId) (hl : l.Nodup) (s : State) :
    (∀ j, (l.foldl (State.retune pr) s).call j =
      if j ∈ l ∧ (s.call j).retunes pr = true then (s.call j).retuned pr else s.call j) ∧
    (l.foldl (State.retune pr) s).notices.backlog = s.backlogRetuned pr l := by
  induction l generalizing s with
  | nil => simp [State.backlogRetuned]
  | cons k l ih =>
    obtain ⟨hk, hl⟩ := List.nodup_cons.mp hl
    obtain ⟨hcall, hback⟩ := ih hl (State.retune pr s k)
    have other : ∀ j ∈ l, (State.retune pr s k).call j = s.call j := fun j hj => by
      rw [State.retune_call, if_neg]; exact fun h => hk (h.1 ▸ hj)
    rw [List.foldl_cons]
    refine ⟨fun j => ?_, ?_⟩
    · rw [hcall j, State.retune_call]
      by_cases hj : j = k
      · subst hj; simp [hk]
      · simp [hj]
    · rw [hback]
      unfold State.backlogRetuned
      have same : (l.filter fun j => ((State.retune pr s k).call j).retunes pr &&
            decide (RecordRef.call j ∉ (State.retune pr s k).notices.backlog)) =
          l.filter fun j => (s.call j).retunes pr && decide (RecordRef.call j ∉ s.notices.backlog) := by
        refine List.filter_congr fun j hj => ?_
        rw [other j hj]
        have hjk : j ≠ k := fun e => hk (e ▸ hj)
        rw [State.retune_eq]
        split
        · dsimp only; split <;> simp [hjk]
        · rfl
      rw [same, State.retune_eq, List.filter_cons]
      cases (s.call k).retunes pr <;> by_cases hin : RecordRef.call k ∈ s.notices.backlog <;> simp [hin]

/-! ### The calls of a queue -/

/-- The indices of a table's records with a property, in ascending order. -/
theorem filterMap_zip_finRange {α : Type} {n : Nat} (v : Vector α n) (p : α → Bool) :
    ((List.finRange n).zip v.toList).filterMap (fun x => if p x.2 then some x.1 else none) =
      (List.finRange n).filter fun k => p v[k.val] := by
  have hzip : (List.finRange n).zip v.toList = (List.finRange n).map fun k => (k, v[k.val]) := by
    refine List.ext_getElem (by simp) fun i hi hj => ?_
    simp
  rw [hzip, List.filterMap_map, ← List.filterMap_eq_filter]
  congr 1

theorem State.slotsWhere_eq (s : State) (p : Call → Bool) :
    s.slotsWhere p = (List.finRange 2048).filter fun k => p (s.call k) := filterMap_zip_finRange s.calls p

/-- The calls of a queue in OFFERED, in ascending slot number (R16). -/
def State.offeredOf (s : State) (q : QueueId) : List CallId :=
  (List.finRange 2048).filter fun k => (s.call k).state == .OFFERED && (s.call k).queue == q

theorem State.members_eq (s : State) (q : QueueId) : s.members q = (s.queue q).waiting ++ s.offeredOf q := by
  rw [State.members, State.slotsWhere_eq]
  rfl

/-- The calls of a queue are the same while its list and the states and queues of the calls are. -/
theorem State.members_congr {s t : State} {q : QueueId} (hw : (t.queue q).waiting = (s.queue q).waiting)
    (hc : ∀ k, (t.call k).state = (s.call k).state ∧ (t.call k).queue = (s.call k).queue) :
    t.members q = s.members q := by
  have offered : t.offeredOf q = s.offeredOf q := List.filter_congr fun k _ => by rw [(hc k).1, (hc k).2]
  rw [State.members_eq, State.members_eq, hw, offered]

/-! ### Q_DEFINE before its sweep -/

/-- The waiting list of a queue after a Q_DEFINE, put in order under a changed class boost (R15). -/
def State.listRedefined (s : State) (q : QueueId) (d : QDefinition) : List CallId :=
  if (s.queue q).params.classBoost = d.params.classBoost then (s.queue q).waiting
  else s.inOrder d.params.classBoost (s.queue q).waiting

/-- A queue's record stored, and its list put in order under a changed class boost (R14, R15). -/
def State.parametersStored (s : State) (q : QueueId) (d : QDefinition) : State :=
  s.setQueue q { (s.queue q).define d with waiting := s.listRedefined q d }

/-- And its calls retuned under a changed programme (R16). -/
def State.retunedFor (s : State) (q : QueueId) (d : QDefinition) : State :=
  let u := s.parametersStored q d
  if (s.queue q).params.programme = d.params.programme then u
  else (u.members q).foldl (State.retune d.params.programme) u

/-- And their announcements rescheduled (R17). -/
def State.rescheduledFor (s : State) (q : QueueId) (d : QDefinition) : State :=
  let u := s.retunedFor q d
  (u.members q).foldl (State.reschedule (s.queue q).announcing (u.queue q).announcing d.params.announceInterval) u

/-- And overflow spent cleared under a changed target or time: all a Q_DEFINE does before its sweep (R14 to R18). -/
def State.redefined (s : State) (q : QueueId) (d : QDefinition) : State :=
  let u := s.rescheduledFor q d
  if (s.queue q).params.overflowTarget = d.params.overflowTarget ∧
      (s.queue q).params.overflowAfter = d.params.overflowAfter then u
  else (u.queue q).waiting.foldl State.unspend u

theorem State.parametersStored_eq (s : State) (q : QueueId) (d : QDefinition) :
    (if (s.queue q).params.classBoost = d.params.classBoost then s.setQueue q ((s.queue q).define d)
      else (s.setQueue q ((s.queue q).define d)).resort q) = s.parametersStored q d := by
  unfold State.parametersStored State.listRedefined
  split
  · rfl
  · simp only [State.resort, State.setWaiting, State.queue_setQueue, if_true]
    simp only [State.setQueue, Vector.set_set]
    rfl

theorem State.define_eq (s : State) (q : QueueId) (d : QDefinition) : s.define q d = (s.redefined q d).sweep q := by
  unfold State.define State.redefined State.rescheduledFor State.retunedFor
  dsimp only
  rw [State.parametersStored_eq]

section
variable (s : State) (q : QueueId) (d : QDefinition)

theorem State.retunedFor_rest : s.retunedFor q d =
    { s.parametersStored q d with
      calls := (s.retunedFor q d).calls
      notices := { s.notices with backlog := (s.retunedFor q d).notices.backlog } } := by
  unfold State.retunedFor
  dsimp only
  split
  · rfl
  · exact (State.foldl_retune_rest _ _ _).trans rfl

theorem State.rescheduledFor_rest : s.rescheduledFor q d =
    { s.retunedFor q d with calls := (s.rescheduledFor q d).calls } :=
  State.foldl_setCall_rest (f := fun now c => c.rescheduled _ _ _ now) (State.reschedule_eq _ _ _) _ _

theorem State.redefined_rest_rescheduled : s.redefined q d =
    { s.rescheduledFor q d with calls := (s.redefined q d).calls } := by
  unfold State.redefined
  dsimp only
  split
  · rfl
  · exact State.foldl_setCall_rest (f := fun _ c => c.unspent) State.unspend_eq _ _

/-- A Q_DEFINE touches its queue's record, the calls and the backlog before its sweep, and nothing else. -/
theorem State.redefined_rest : s.redefined q d =
    { s.parametersStored q d with
      calls := (s.redefined q d).calls
      notices := { s.notices with backlog := (s.redefined q d).notices.backlog } } := by
  rw [State.redefined_rest_rescheduled, State.rescheduledFor_rest, State.retunedFor_rest]

theorem State.redefined_queue (r : QueueId) : (s.redefined q d).queue r =
    if q = r then { (s.queue q).define d with waiting := s.listRedefined q d } else s.queue r := by
  rw [State.redefined_rest]
  exact s.queue_setQueue q r _

theorem State.redefined_sameLibrary : s.SameLibrary (s.redefined q d) :=
  State.sameLibrary_of_rest (by rw [State.redefined_rest]; rfl)

end

end Sys2Proof.Machine
end

section
/-! PROOFS. Q_DEFINE: the parameters at their clamps and the mask of the clamped words (R12 to R14, Table 1-6). -/

namespace Sys2Proof.Machine

/-! ### Clamps -/

theorem clamp_zero (hi n : Nat) : clamp 0 hi n = min n hi := by
  rw [clamp, Nat.max_eq_right (Nat.zero_le _), Nat.min_comm]

theorem clamp_eq (lo hi n : Nat) : clamp lo hi n = max lo (min n hi) := by rw [clamp, Nat.min_comm]

theorem clampOrOff_toNat (lo hi : Nat) (w : Word) :
    clampOrOff lo hi w.toNat = if w = 0 then 0 else max lo (min w.toNat hi) := by
  have zero : w.toNat = 0 ↔ w = 0 := by rw [← BitVec.toNat_inj]; rfl
  simp only [clampOrOff, clamp_eq, zero]

/-- The answer of a request that may clamp (spec 00 section 2.5). -/
theorem Answer.clamped_eq (b : Bool) (payload : List Word) :
    Answer.clamped b payload = ⟨clampClass b, clampReason b, 0, payload, []⟩ := by cases b <;> rfl

/-! ### The mask -/

/-- A mask is at most the sum of the bits it may set. -/
theorem clampMask_le (l : List (Nat × Nat × Nat)) : clampMask l ≤ (l.map fun e => 2 ^ e.1).sum := by
  induction l with
  | nil => exact le_rfl
  | cons e l ih =>
    obtain ⟨i, given, stored⟩ := e
    simp only [clampMask, List.map_cons, List.sum_cons]
    have : 0 ≤ 2 ^ i := Nat.zero_le _
    split <;> omega

/-- Bit `j` of a mask is 1 exactly when the word with that index was stored otherwise than given (R186). -/
theorem clampMask_bit (l : List (Nat × Nat × Nat)) (hl : (l.map (·.1)).Nodup) (hi : ∀ e ∈ l, e.1 < 32) (j : Nat)
    (hj : j < 32) :
    (word (clampMask l)).getLsbD j = decide ((j, true) ∈ l.map fun e => (e.1, e.2.1 != e.2.2)) := by
  induction l generalizing j with
  | nil => simp [clampMask, word]
  | cons e l ih =>
    obtain ⟨i, given, stored⟩ := e
    obtain ⟨hfresh, hl⟩ := List.nodup_cons.mp hl
    have rest := ih hl fun e he => hi e (List.mem_cons_of_mem _ he)
    have hi32 : i < 32 := hi _ List.mem_cons_self
    simp only [List.map_cons, List.mem_cons]
    by_cases same : given = stored
    · simpa [clampMask, same] using rest j hj
    · have add : word (clampMask ((i, given, stored) :: l)) = BitVec.twoPow 32 i + word (clampMask l) := by
        have power : BitVec.ofNat 32 (2 ^ i) = BitVec.twoPow 32 i :=
          BitVec.eq_of_toNat_eq (by rw [BitVec.toNat_ofNat, BitVec.toNat_twoPow])
        rw [clampMask, if_neg same, word, BitVec.ofNat_add, power, word]
      have clear : BitVec.twoPow 32 i &&& word (clampMask l) = 0#32 := by
        refine BitVec.eq_of_getLsbD_eq fun n hn => ?_
        rw [BitVec.getLsbD_and, BitVec.getLsbD_twoPow, rest n hn]
        by_cases hin : i = n
        · subst hin
          have : (i, true) ∉ l.map fun e => (e.1, e.2.1 != e.2.2) := fun h => by
            obtain ⟨e, he, heq⟩ := List.mem_map.mp h
            exact hfresh (List.mem_map.mpr ⟨e, he, (congrArg Prod.fst heq :)⟩)
          simp [this]
        · simp [hin]
      rw [add, BitVec.add_eq_or_of_and_eq_zero _ _ clear, BitVec.getLsbD_or, BitVec.getLsbD_twoPow, rest j hj]
      simp [same, hi32, eq_comm (a := i), Bool.decide_or]

/-! ### The definition a Q_DEFINE gives -/

/-- The words whose clamping a Q_DEFINE names, each with the value given and the value stored (R186). -/
def clampList (p : QDefineWords) (params : QueueParams) (aht : Nat) : List (Nat × Nat × Nat) :=
  [(4, p.capacity.toNat, params.capacity), (5, p.weight.toNat, params.weight),
    (6, p.skillGain.toNat, params.skillGain), (7, p.classBoost.toNat, params.classBoost),
    (8, p.guard.toNat, params.guard), (10, p.answerTimeout.toNat, params.answerTimeout),
    (11, p.wrapBase.toNat, params.wrapBase), (12, p.wrapExtensionMax.toNat, params.wrapExtensionMax),
    (14, p.overflowAfter.toNat, params.overflowAfter), (16, p.serviceTarget.toNat, params.serviceTarget),
    (17, p.serviceGoal.toNat, params.serviceGoal), (18, p.shortAbandon.toNat, params.shortAbandon),
    (22, p.announceInterval.toNat, params.announceInterval), (23, p.initialAht.toNat, aht)]

/-- The mask of a Q_DEFINE fits a word, its bits naming the words stored otherwise than given (R186). -/
theorem clampList_mask (p : QDefineWords) (params : QueueParams) (aht : Nat) :
    clampMask (clampList p params aht) < 4294967296 ∧ ∀ j, j < 32 →
      (word (clampMask (clampList p params aht))).getLsbD j =
        decide ((j, true) ∈ (clampList p params aht).map fun e => (e.1, e.2.1 != e.2.2)) := by
  refine ⟨(clampMask_le _).trans_lt ?_, clampMask_bit _ ?_ ?_⟩
  · simp [clampList]
  · simp [clampList]
  · simp [clampList]

/-- A word that fits is 0 exactly when its number is. -/
theorem word_bne_zero {n : Nat} (h : n < 4294967296) : (word n != 0) = (n != 0) := by
  have zero : word n = 0 ↔ n = 0 := by rw [← BitVec.toNat_inj, word_toNat h]; rfl
  rw [Bool.eq_iff_iff, bne_iff_ne, bne_iff_ne, Ne, zero]

/-- A Q_DEFINE that is not refused stores its parameters and treats the queue's calls, sweeps the queue, and closes
with its reply (R12, R14 to R19). -/
theorem exec_qDefine {s : State} (hs : s.Taking) (tag : Tag) (p : QDefineWords) (q : QueueId) (d : QDefinition)
    (hq : p.queue = word q.val) (hd : qDefineOf q (s.queue q).defined p = some d) :
    ∃ t agents u, exec (.qDefine tag p) s = .next t ∧ State.Offers q (s.redefined q d) agents u ∧
      ((s.queue q).mode.distribute = false → agents = []) ∧
      ((s.queue q).mode.distribute = true →
        (u.queue q).waiting = [] ∨ ∀ a ∈ u.readyList, (u.agent a).qualifies (u.queue q) = false) ∧
      u.Closes t ∧ t.Replies (clampClass (d.mask != 0)) (clampReason (d.mask != 0)) 0x10 tag [word d.mask] := by
  have run : exec (.qDefine tag p) s = .next (((s.redefined q d).sweep q).drain.toReply
      (Answer.reply ⟨clampClass (d.mask != 0), clampReason (d.mask != 0), 0, [word d.mask], []⟩ 0x10 tag)) := by
    refine (hs.takes (b := ⟨0x10, tag, p.toList⟩) _ rfl).trans ?_
    simp only [State.qDefineBody, hq, idOf_word (show 64 ≤ 4294967296 by decide), hd, State.define_eq,
      Answer.clamped_eq]
  have mode : ((s.redefined q d).queue q).mode = (s.queue q).mode := by rw [State.redefined_queue, if_pos rfl]; rfl
  obtain ⟨agents, offers, off, ends⟩ := (s.redefined q d).sweep_offers q
  obtain ⟨t, ht, closes, replies⟩ := State.closes ((s.redefined q d).sweep q) _ _ _ 0x10 tag
    (by rw [offers.rest, State.redefined_rest]; exact hs.2)
  exact ⟨t, agents, _, run.trans (congrArg _ ht), offers, mode ▸ off, mode ▸ ends, closes, replies⟩

/-- The parameters a Q_DEFINE stores, its words having codes and identifiers in range (R13, Table 1-6). -/
def storedParams (p : QDefineWords) (skill : Fin 64) (policy : AgentPolicy) (target : Option QueueId)
    (greeting : Option ClipId) (programme : Option ProgrammeId) (mode : AnnounceMode) : QueueParams :=
  { skill := skill
    minLevel := p.minLevel.toNat
    capacity := min p.capacity.toNat 2048
    weight := max 1 (min p.weight.toNat 32)
    skillGain := min p.skillGain.toNat 255
    classBoost := min p.classBoost.toNat 600
    guard := if p.guard = 0 then 0 else max 10 (min p.guard.toNat 3600)
    policy := policy
    answerTimeout := max 5 (min p.answerTimeout.toNat 120)
    wrapBase := min p.wrapBase.toNat 900
    wrapExtensionMax := min p.wrapExtensionMax.toNat 1800
    overflowTarget := target
    overflowAfter := if p.overflowAfter = 0 then 0 else max 5 (min p.overflowAfter.toNat 3600)
    carryWait := p.carryWait != 0
    serviceTarget := max 1 (min p.serviceTarget.toNat 600)
    serviceGoal := min p.serviceGoal.toNat 1000
    shortAbandon := min p.shortAbandon.toNat 60
    greeting := greeting
    programme := programme
    announceMode := mode
    announceInterval := if p.announceInterval = 0 then 0 else max 20 (min p.announceInterval.toNat 600) }

/-- The initial AHT of a Q_DEFINE is clamped at a first definition alone (R14). -/
def storedAht (p : QDefineWords) (defined : Bool) : Nat :=
  if defined then p.initialAht.toNat else max 1 (min p.initialAht.toNat 3600)

/-- Words with codes and identifiers in range give a definition: the parameters at their clamps (R12, R13). -/
theorem qDefineOf_stored {p : QDefineWords} {q : QueueId} {skill : Fin 64} {policy : AgentPolicy}
    {target : Option QueueId} {greeting : Option ClipId} {programme : Option ProgrammeId} {mode : AnnounceMode}
    (defined : Bool) (hskill : p.skill = word skill.val) (hlow : 1 ≤ p.minLevel.toNat) (hhigh : p.minLevel.toNat ≤ 9)
    (hpolicy : policyOf p.policy = some policy) (hmode : announceModeOf p.announceMode = some mode)
    (htarget : p.overflowTarget = optWord (target.map (·.val))) (hown : target ≠ some q)
    (hgreeting : p.greeting = optWord (greeting.map (·.val)))
    (hprogramme : p.programme = optWord (programme.map (·.val))) :
    ∃ d, qDefineOf q defined p = some d ∧ d.params = storedParams p skill policy target greeting programme mode ∧
      d.initialAht = storedAht p defined ∧ d.mask = clampMask (clampList p d.params d.initialAht) := by
  have ids : qDefineIds q p = some (skill, policy, target, greeting, programme, mode) := by
    simp only [qDefineIds, hskill, htarget, hgreeting, hprogramme, hpolicy, hmode,
      idOf_word (show 64 ≤ 4294967296 by decide), optIdOf_optWord (show 64 < 4294967296 by decide),
      optIdOf_optWord (show 256 < 4294967296 by decide), optIdOf_optWord (show 16 < 4294967296 by decide)]
    exact if_pos ⟨hlow, hhigh, hown⟩
  simp only [qDefineOf, ids, Option.some.injEq, exists_eq_left', clamp_zero]
  simp only [storedParams, storedAht, clamp_eq, clampOrOff_toNat, true_and]
  exact ⟨rfl, rfl⟩

/-- Settles O15: the words are read as the parameters at their clamps, and neither the treatment of the queue's calls
nor the sweep writes anything of a queue but its list. -/
theorem qDefineStoresClampedParameters : Obligations.QDefineStoresClampedParameters := by
  intro tag p q skill policy target greeting programme mode s hs hq hskill hlow hhigh hpolicy hmode htarget hown
    hgreeting hprogramme params initial clamped
  obtain ⟨d, hd, hparams, haht, hmask⟩ := qDefineOf_stored (s.queue q).defined hskill hlow hhigh hpolicy hmode htarget
    hown hgreeting hprogramme
  obtain ⟨t, agents, u, run, offers, -, -, closes, replies⟩ := exec_qDefine hs tag p q d hq hd
  obtain ⟨fits, bits⟩ := clampList_mask p d.params d.initialAht
  rw [← hmask] at fits bits
  refine ⟨t, word d.mask, run, ?_, fun r hr => ?_, ?_, fun i hi => ?_, ?_, ?_, ?_⟩
  · have stored : (s.queue q).define d =
        { defined := true, mode := (s.queue q).mode, params := params
          aht := if (s.queue q).defined then (s.queue q).aht else 16 * initial
          counters := (s.queue q).counters, waiting := (s.queue q).waiting } := by
      rw [Queue.define, hparams, haht, storedAht]
      cases (s.queue q).defined <;> rfl
    rw [closes.queue, offers.queue_self, State.redefined_queue, if_pos rfl, stored]
  · rw [closes.queue, offers.queue_other hr, State.redefined_queue, if_neg (Ne.symm hr)]
  · rw [word_bne_zero fits]; exact replies
  · have named : (clampList p d.params d.initialAht).map (fun e => (e.1, e.2.1 != e.2.2)) = clamped := by
      rw [hparams, haht, storedAht]
      cases h : (s.queue q).defined <;> simp [clampList, clamped, params, storedParams, initial, h]
    rw [bits i hi, decide_eq_decide, named]
  · rw [closes.joinSeq, offers.rest, State.redefined_rest]; rfl
  · rw [closes.treatment, offers.rest, State.redefined_rest]; rfl
  · exact (s.redefined_sameLibrary q d).trans (offers.sameLibrary.trans closes.library)

end Sys2Proof.Machine
end

section
/-! PROOFS. Q_DEFINE: what it does to the calls of its queue (R15 to R19, Table 1-8). -/

namespace Sys2Proof.Machine

/-! ### The record of one call -/

/-- Announcements are on under these parameters (Table 1-8). -/
def announces (p : QueueParams) : Bool := decide (p.announceMode ≠ .NONE ∧ p.announceInterval ≠ 0)

theorem Queue.announcing_eq (r : Queue) : r.announcing = announces r.params := by
  simp [Queue.announcing, announces, bne, beq_eq_decide, Bool.decide_and]

/-- A call of a queue whose parameters change from `old` to `new`; `listed` when it stands in the waiting list (R16 to
R18). -/
def Call.redefined (c : Call) (old new : QueueParams) (listed : Bool) (now : Nat) : Call :=
  let tuned := if old.programme ≠ new.programme ∧ c.retunes new.programme = true then c.retuned new.programme else c
  let timed := tuned.rescheduled (announces old) (announces new) new.announceInterval now
  if listed && !decide (old.overflowTarget = new.overflowTarget ∧ old.overflowAfter = new.overflowAfter) then
    timed.unspent
  else timed

section
variable (c : Call) (old new : QueueParams) (listed : Bool) (now : Nat)

/-- Only the audio fields, the next announcement, overflow spent and the marks are written. -/
theorem Call.redefined_same :
    ({ c with
      audio := (c.redefined old new listed now).audio, channel := (c.redefined old new listed now).channel
      nextAnnouncement := (c.redefined old new listed now).nextAnnouncement
      overflowSpent := (c.redefined old new listed now).overflowSpent } : Call).SameButNotices
        (c.redefined old new listed now) := by
  unfold Call.SameButNotices Call.redefined
  dsimp only
  split <;> split <;> rfl

/-- A call whose channel changes (R16). -/
theorem Call.redefined_tuned (h : old.programme ≠ new.programme ∧ c.retunes new.programme = true) :
    (c.redefined old new listed now).audio = (if new.programme.isSome then .MUSIC else .SILENT) ∧
      (c.redefined old new listed now).channel = new.programme.map (·.val) ∧
      (c.redefined old new listed now).marks = { c.marks with audio := true } := by
  unfold Call.redefined
  rw [if_pos h]
  dsimp only
  split <;> exact ⟨rfl, rfl, rfl⟩

/-- A call whose channel does not change (R16). -/
theorem Call.redefined_untuned (h : ¬ (old.programme ≠ new.programme ∧ c.retunes new.programme = true)) :
    (c.redefined old new listed now).audio = c.audio ∧ (c.redefined old new listed now).channel = c.channel := by
  unfold Call.redefined
  rw [if_neg h]
  dsimp only
  split <;> exact ⟨rfl, rfl⟩

/-- The announcement schedule of a call: a change of channel does not bear on it (R17, Table 1-8). -/
theorem Call.redefined_next : (c.redefined old new listed now).nextAnnouncement =
    (c.rescheduled (announces old) (announces new) new.announceInterval now).nextAnnouncement := by
  have tuned : ((c.retuned new.programme).audio = .MUSIC ∨ (c.retuned new.programme).audio = .SILENT) := by
    unfold Call.retuned
    cases new.programme <;> simp
  have was : c.retunes new.programme = true → c.audio = .MUSIC ∨ c.audio = .SILENT := fun h => by
    simp only [Call.retunes, Bool.or_eq_true, Bool.and_eq_true, beq_iff_eq] at h
    exact h.imp_right And.left
  unfold Call.redefined
  dsimp only
  split <;> split
  case isTrue.isTrue h => simp only [Call.unspent, Call.rescheduled, tuned, was h.2]; rfl
  case isFalse.isTrue h => simp only [Call.rescheduled, tuned, was h.2]; rfl
  case isTrue.isFalse => rfl
  case isFalse.isFalse => rfl

/-- Overflow spent of a call (R18). -/
theorem Call.redefined_spent : (c.redefined old new listed now).overflowSpent =
    if listed && !decide (old.overflowTarget = new.overflowTarget ∧ old.overflowAfter = new.overflowAfter) then false
    else c.overflowSpent := by
  unfold Call.redefined
  dsimp only
  split <;> split <;> rfl
end

/-! ### The calls of the queue -/

/-- The calls of a queue in the order a Q_DEFINE takes them: its list as re-sorted, then its OFFERED calls (R16, log
entry 26). -/
def State.membersRedefined (s : State) (q : QueueId) (d : QDefinition) : List CallId :=
  s.listRedefined q d ++ s.offeredOf q

section
variable {s : State} (agree : s.RecordsAgree) (q : QueueId) (d : QDefinition)

theorem State.listRedefined_perm (s : State) (q : QueueId) (d : QDefinition) :
    (s.listRedefined q d).Perm (s.queue q).waiting := by
  unfold State.listRedefined
  split
  · exact .refl _
  · exact s.inOrder_perm _ _

theorem State.parametersStored_members (s : State) (q : QueueId) (d : QDefinition) :
    (s.parametersStored q d).members q = s.membersRedefined q d := by
  rw [State.members_eq, State.parametersStored, State.queue_setQueue, if_pos rfl]
  rfl

include agree

theorem State.mem_listRedefined (k : CallId) :
    k ∈ s.listRedefined q d ↔ (s.call k).state = .QUEUED ∧ (s.call k).queue = q := by
  rw [(s.listRedefined_perm q d).mem_iff, agree.listed]

theorem State.mem_membersRedefined (k : CallId) : k ∈ s.membersRedefined q d ↔
    ((s.call k).state = .QUEUED ∨ (s.call k).state = .OFFERED) ∧ (s.call k).queue = q := by
  rw [State.membersRedefined, List.mem_append, State.mem_listRedefined agree, State.offeredOf, List.mem_filter,
    Bool.and_eq_true, beq_iff_eq, beq_iff_eq, or_and_right]
  simp only [List.mem_finRange, true_and]

theorem State.listRedefined_nodup : (s.listRedefined q d).Nodup :=
  (s.listRedefined_perm q d).nodup_iff.mpr (agree.listNodup q)

theorem State.membersRedefined_nodup : (s.membersRedefined q d).Nodup := by
  refine List.nodup_append.mpr ⟨State.listRedefined_nodup agree q d, (List.nodup_finRange _).filter _, ?_⟩
  rintro k hk j hj rfl
  have queued := ((State.mem_listRedefined agree q d k).mp hk).1
  have offered := (List.mem_filter.mp hj).2
  rw [queued] at offered
  exact absurd offered (by simp)

/-- The calls and the backlog once the programme has changed (R16). -/
theorem State.retunedFor_calls :
    (∀ k, (s.retunedFor q d).call k =
      if k ∈ s.membersRedefined q d ∧ (s.queue q).params.programme ≠ d.params.programme ∧
        (s.call k).retunes d.params.programme = true then (s.call k).retuned d.params.programme else s.call k) ∧
    (s.retunedFor q d).notices.backlog = s.notices.backlog ++
      ((s.membersRedefined q d).filter fun k =>
        decide ((s.queue q).params.programme ≠ d.params.programme ∧ (s.call k).retunes d.params.programme = true) &&
          decide (RecordRef.call k ∉ s.notices.backlog)).map .call := by
  unfold State.retunedFor
  dsimp only
  rw [State.parametersStored_members]
  split
  case isTrue same => simp [same, State.parametersStored]
  case isFalse differ =>
    obtain ⟨calls, backlog⟩ := State.foldl_retune d.params.programme _ (State.membersRedefined_nodup agree q d)
      (s.parametersStored q d)
    refine ⟨fun k => (calls k).trans ?_, backlog.trans ?_⟩
    · simp only [ne_eq, differ, not_false_eq_true, true_and]; rfl
    · simp only [ne_eq, differ, not_false_eq_true, true_and, Bool.decide_eq_true]; rfl

theorem State.retunedFor_members : (s.retunedFor q d).members q = s.membersRedefined q d := by
  rw [← State.parametersStored_members]
  refine State.members_congr (by rw [State.retunedFor_rest]; rfl) fun k => ?_
  rw [(State.retunedFor_calls agree q d).1 k]
  split <;> exact ⟨rfl, rfl⟩

/-- The calls once a Q_DEFINE has treated them, before its sweep (R16 to R18). -/
theorem State.redefined_call (k : CallId) : (s.redefined q d).call k =
    if k ∈ s.membersRedefined q d then
      (s.call k).redefined (s.queue q).params d.params (decide (k ∈ s.listRedefined q d)) s.now
    else s.call k := by
  have now : (s.retunedFor q d).now = s.now := by rw [State.retunedFor_rest]; rfl
  have params : ((s.retunedFor q d).queue q).announcing = announces d.params := by
    rw [Queue.announcing_eq, State.retunedFor_rest]
    have : (s.parametersStored q d).queue q = { (s.queue q).define d with waiting := s.listRedefined q d } := by
      rw [State.parametersStored, State.queue_setQueue, if_pos rfl]
    exact congrArg (fun r : Queue => announces r.params) this
  have timed : (s.rescheduledFor q d).call k =
      if k ∈ s.membersRedefined q d then
        ((s.retunedFor q d).call k).rescheduled (announces (s.queue q).params) (announces d.params)
          d.params.announceInterval s.now
      else (s.retunedFor q d).call k := by
    unfold State.rescheduledFor
    dsimp only
    rw [State.retunedFor_members agree, params, Queue.announcing_eq,
      State.foldl_setCall_call (f := fun now c => c.rescheduled _ _ _ now) (State.reschedule_eq _ _ _) _
        (State.membersRedefined_nodup agree q d), now]
  have list : ((s.rescheduledFor q d).queue q).waiting = s.listRedefined q d := by
    have := State.redefined_queue s q d q
    rw [if_pos rfl, State.redefined_rest_rescheduled] at this
    exact congrArg Queue.waiting this
  have spent : (s.redefined q d).call k =
      if k ∈ s.listRedefined q d ∧ ¬ ((s.queue q).params.overflowTarget = d.params.overflowTarget ∧
        (s.queue q).params.overflowAfter = d.params.overflowAfter) then ((s.rescheduledFor q d).call k).unspent
      else (s.rescheduledFor q d).call k := by
    unfold State.redefined
    dsimp only
    split
    case isTrue same => simp [same]
    case isFalse differ =>
      rw [State.foldl_setCall_call (f := fun _ c => c.unspent) State.unspend_eq _
        (list ▸ State.listRedefined_nodup agree q d),
        list]
      simp only [differ, not_false_eq_true, and_true]
  rw [spent, timed, (State.retunedFor_calls agree q d).1 k]
  by_cases member : k ∈ s.membersRedefined q d
  · simp only [member, if_true, true_and, Call.redefined, Bool.and_eq_true, decide_eq_true_eq, Bool.not_eq_true',
      decide_eq_false_iff_not]
  · have unlisted : k ∉ s.listRedefined q d := fun h => member (List.mem_append_left _ h)
    simp only [member, unlisted, if_false, false_and]

/-- The backlog before the sweep: the calls whose channel changes, in the order they are taken (R16, R190). -/
theorem State.redefined_backlog : (s.redefined q d).notices.backlog = s.notices.backlog ++
    ((s.membersRedefined q d).filter fun k =>
      decide ((s.queue q).params.programme ≠ d.params.programme ∧ (s.call k).retunes d.params.programme = true) &&
        decide (RecordRef.call k ∉ s.notices.backlog)).map .call := by
  rw [State.redefined_rest_rescheduled, State.rescheduledFor_rest]
  exact (State.retunedFor_calls agree q d).2
end

/-! ### The clauses of R16 to R18 on one call -/

theorem Call.retunes_iff (c : Call) (pr : Option ProgrammeId) :
    c.retunes pr = true ↔ c.audio = .MUSIC ∨ (c.audio = .SILENT ∧ pr ≠ none) := by
  simp [Call.retunes, Option.isSome_iff_ne_none]

/-- The music of a call under a new programme (R16). -/
theorem Call.redefined_music (c : Call) (old new : QueueParams) (listed : Bool) (now : Nat)
    (h : old.programme ≠ new.programme ∧ (c.audio = .MUSIC ∨ (c.audio = .SILENT ∧ new.programme ≠ none))) :
    (∀ pr, new.programme = some pr → (c.redefined old new listed now).audio = .MUSIC ∧
      (c.redefined old new listed now).channel = some pr.val) ∧
    (new.programme = none → (c.redefined old new listed now).audio = .SILENT ∧
      (c.redefined old new listed now).channel = none) := by
  obtain ⟨audio, channel, -⟩ := c.redefined_tuned old new listed now (by rwa [Call.retunes_iff])
  rw [audio, channel]
  refine ⟨fun pr e => ?_, fun e => ?_⟩ <;> rw [e] <;> exact ⟨rfl, rfl⟩

/-- The schedule of a call whose queue stops announcing, starts or does neither (R17, Table 1-8). -/
theorem Call.redefined_schedule (c : Call) (old new : QueueParams) (listed : Bool) (now : Nat) :
    (announces old = true → announces new = false → (c.redefined old new listed now).nextAnnouncement = none) ∧
    (announces old = false → announces new = true → c.nextAnnouncement = none →
      (c.audio = .MUSIC ∨ c.audio = .SILENT) → (c.redefined old new listed now).nextAnnouncement =
        some (deadlineAt now (now + new.announceInterval))) ∧
    (announces old = false → announces new = true →
      (c.nextAnnouncement ≠ none ∨ c.audio = .GREETING ∨ c.audio = .ANNOUNCE) →
        (c.redefined old new listed now).nextAnnouncement = c.nextAnnouncement) ∧
    (announces old = announces new → (c.redefined old new listed now).nextAnnouncement = c.nextAnnouncement) := by
  rw [Call.redefined_next]
  unfold Call.rescheduled
  refine ⟨fun on off => by simp [on, off], fun off on absent audio => by simp [off, on, absent, audio],
    fun off on keeps => ?_, fun same => ?_⟩
  · have no : ¬ ((c.audio = .MUSIC ∨ c.audio = .SILENT) ∧ c.nextAnnouncement = none) := by
      rintro ⟨audio, absent⟩
      rcases keeps with h | h | h
      · exact h absent
      · simp [h] at audio
      · simp [h] at audio
    simp [off, on, no]
  · rw [same]; cases announces new <;> rfl

/-- An offer made after a change of the fields other than the notices' (R75). -/
theorem Call.SameButNotices.offeredTo {c d : Call} (h : c.SameButNotices d) (a : AgentId) (since : Nat) :
    ({ c with state := .OFFERED, agent := some a, savedReadySince := some since } : Call).SameButNotices
      (d.offeredTo a since) := by
  unfold Call.SameButNotices Call.offeredTo at *
  rw [h]

/-! ### The marks -/

theorem Marks.count_set_audio {m : Marks} (h : m.count = 0) : Marks.count { m with audio := true } = 1 := by
  simp only [Marks.count, Bool.toNat_true] at *
  omega

/-- With nothing pending before it, a Q_DEFINE that offers nothing posts one AUDIO notice for each call whose channel
changes, as far as the ring has room (R16, R191). -/
theorem State.redefined_drain {s : State} (agree : s.RecordsAgree) (law : s.NoticeLaw) (q : QueueId) (d : QDefinition)
    (empty : s.notices.backlog = []) (marked : List CallId)
    (hm : marked = (s.membersRedefined q d).filter fun k =>
      decide ((s.queue q).params.programme ≠ d.params.programme ∧ (s.call k).retunes d.params.programme = true) &&
        decide (RecordRef.call k ∉ s.notices.backlog)) (room : marked.length ≤ s.ringRoom) :
    (s.redefined q d).drain.notices.backlog = [] ∧
      (s.redefined q d).drain.notices.posted = s.notices.posted + BitVec.ofNat 16 marked.length := by
  have backlog : (s.redefined q d).notices.backlog = marked.map .call := by
    rw [State.redefined_backlog agree, empty, List.nil_append, hm, empty]
  have nodup : (marked.map RecordRef.call).Nodup := by
    refine List.Nodup.map (fun a b h => RecordRef.call.inj h) ?_
    rw [hm]
    exact (State.membersRedefined_nodup agree q d).filter _
  have one : ∀ r ∈ marked.map RecordRef.call, (s.redefined q d).pendingCount r = 1 := by
    intro r hr
    obtain ⟨k, hk, rfl⟩ := List.mem_map.mp hr
    rw [hm, List.mem_filter, Bool.and_eq_true, decide_eq_true_eq] at hk
    obtain ⟨member, tuned, -⟩ := hk
    have quiet : s.pendingCount (.call k) = 0 := by
      rw [← State.pendingKind_eq_none]
      by_contra h
      have := law.marked _ h
      rw [empty] at this
      cases this
    show Marks.count ((s.redefined q d).call k).marks = 1
    rw [State.redefined_call agree, if_pos member, (Call.redefined_tuned _ _ _ _ _ tuned).2.2]
    exact Marks.count_set_audio quiet
  have ring : (s.redefined q d).ringRoom = s.ringRoom := by rw [State.redefined_rest]; rfl
  obtain ⟨h1, h2, -⟩ := (s.redefined q d).drain_single (backlog ▸ nodup) (backlog ▸ one)
    (by rw [backlog, ring, List.length_map]; exact room)
  refine ⟨h1, ?_⟩
  rw [h2, backlog, List.length_map, State.redefined_rest]

theorem State.redefined_waiting (s : State) (q : QueueId) (d : QDefinition) :
    ((s.redefined q d).queue q).waiting = s.listRedefined q d := by rw [State.redefined_queue, if_pos rfl]

theorem State.redefined_agent (s : State) (q : QueueId) (d : QDefinition) (a : AgentId) :
    (s.redefined q d).agent a = s.agent a := by rw [State.redefined_rest]; rfl

theorem State.redefined_readyList (s : State) (q : QueueId) (d : QDefinition) :
    (s.redefined q d).readyList = s.readyList := by rw [State.redefined_rest]; rfl

section
variable {s u t : State} {q : QueueId} {d : QDefinition} {agents : List AgentId} (agree : s.RecordsAgree)
  (offers : State.Offers q (s.redefined q d) agents u) (closes : u.Closes t)
include agree offers closes

/-- A call of the queue after the whole of a Q_DEFINE: its record as the definition has changed it, and what an offer of
the sweep has written over it (R15 to R19, R76). -/
theorem State.redefined_record {k : CallId} (member : k ∈ s.membersRedefined q d) {c : Call}
    (hc : c = (s.call k).redefined (s.queue q).params d.params (decide (k ∈ s.listRedefined q d)) s.now) :
    ∃ state agent since,
      ({ s.call k with
        audio := c.audio, channel := c.channel, nextAnnouncement := c.nextAnnouncement
        overflowSpent := c.overflowSpent, state := state, agent := agent, savedReadySince := since } :
          Call).SameButNotices (t.call k) ∧
      (k ∉ (s.listRedefined q d).take agents.length →
        state = (s.call k).state ∧ agent = (s.call k).agent ∧ since = (s.call k).savedReadySince) ∧
      (k ∈ (s.listRedefined q d).take agents.length → state = .OFFERED ∧ ∃ a ∈ s.readyList, agent = some a ∧
        since = some (s.agent a).readySince ∧ (t.agent a).state = .OFFERED ∧
        (t.agent a).call = some (s.handle k)) := by
  have list := s.redefined_waiting q d
  have before : (s.redefined q d).call k = c := by rw [State.redefined_call agree, if_pos member, hc]
  have same := (s.call k).redefined_same (s.queue q).params d.params (decide (k ∈ s.listRedefined q d)) s.now
  rw [← hc] at same
  by_cases taken : k ∈ (s.listRedefined q d).take agents.length
  · obtain ⟨i, a, hk, ha⟩ := getElem?_of_mem_take taken
    obtain ⟨call, agent⟩ := offers.taken (list ▸ State.listRedefined_nodup agree q d)
      (s.redefined_readyList q d ▸ agree.readyNodup) (list ▸ hk) ha
    have named := closes.agent_of agent
    refine ⟨_, _, _, (same.offeredTo a _).trans (closes.call_of (call.trans (by rw [before]))), fun h => absurd taken h,
      fun _ => ⟨rfl, a, ?_, rfl, by rw [State.redefined_agent], ?_, ?_⟩⟩
    · exact s.redefined_readyList q d ▸ offers.mem_ready a (List.mem_of_getElem? ha)
    · exact (congrArg Agent.state named :)
    · refine (congrArg Agent.call named :).trans (congrArg some ?_)
      rw [State.handle, before]
      exact congrArg (Handle.mk k) same.gen
  · exact ⟨_, _, _, same.trans (closes.call_of ((offers.call_kept (list ▸ taken)).trans before)),
      fun _ => ⟨rfl, rfl, rfl⟩, fun h => absurd h taken⟩

/-- While the ring is full the AUDIO mark of a retuned call stands after the close, offered or not (R16, R189). -/
theorem State.redefined_audio (full : s.ringRoom = 0) {k : CallId} (member : k ∈ s.membersRedefined q d)
    (tuned : (s.queue q).params.programme ≠ d.params.programme ∧ (s.call k).retunes d.params.programme = true) :
    (t.call k).marks.audio = true := by
  have quiet : u.drain = u := u.drain_full (by rw [offers.rest, State.redefined_rest]; exact full)
  have marked : ((s.redefined q d).call k).marks.audio = true := by
    rw [State.redefined_call agree, if_pos member, (Call.redefined_tuned _ _ _ _ _ tuned).2.2]
  rw [closes.calls, quiet]
  rcases offers.call_cases (s.redefined_waiting q d ▸ State.listRedefined_nodup agree q d)
    (s.redefined_readyList q d ▸ agree.readyNodup) k with kept | ⟨a, since, offered⟩
  · rw [kept]; exact marked
  · rw [offered]; exact marked

end

/-- Settles O16: the list is put in order and its calls are treated record by record; the sweep is a run of offers. -/
theorem qDefineTreatsItsCalls : Obligations.QDefineTreatsItsCalls := by
  intro tag p q d s hs agree hq hd old new on member retuned offered
  obtain ⟨t, agents, u, run, offers, off, ends, closes, -⟩ := exec_qDefine hs tag p q d hq hd
  have list := s.redefined_waiting q d
  have listNodup : ((s.redefined q d).queue q).waiting.Nodup := list ▸ State.listRedefined_nodup agree q d
  have ready := s.redefined_readyList q d
  have readyNodup : (s.redefined q d).readyList.Nodup := ready ▸ agree.readyNodup
  have agentsEq : (s.redefined q d).agents = s.agents := by rw [State.redefined_rest]; rfl
  have agentEq := s.redefined_agent q d
  have tuned_iff : ∀ k, retuned k ↔ old.programme ≠ new.programme ∧ (s.call k).retunes new.programme = true :=
    fun k => by rw [Call.retunes_iff]
  have on_iff : ∀ r, announces r = true ↔ on r := fun r => by simp [announces, on]
  have off_iff : ∀ r, announces r = false ↔ ¬ on r := fun r => by rw [← on_iff, Bool.not_eq_true]
  have isMember : ∀ k, k ∈ s.membersRedefined q d ↔ member k := State.mem_membersRedefined agree q d
  have takenList : ∀ {k}, k ∈ (s.listRedefined q d).take agents.length → k ∈ s.membersRedefined q d := fun h =>
    List.mem_append_left _ (List.mem_of_mem_take h)
  refine ⟨t, s.listRedefined q d, agents.length, run, s.listRedefined_perm q d, fun e => if_pos e, fun e => ?_, ?_,
    list ▸ offers.length_le, ⟨agents, rfl, ?_, ?_, ?_⟩, fun h => ?_, fun h => ?_, fun a ha => ?_, fun k hk => ?_,
    fun k hk => ?_, ?_⟩
  · rw [State.listRedefined, if_neg e]; exact s.inOrder_sorted _ _
  · rw [closes.queue, offers.queue_self, list]
  · refine (offers.takes readyNodup).congr ?_ ready.symm agentsEq.symm
    rw [closes.queue, offers.queue_self]
  · rw [closes.readyList, offers.readyList readyNodup, ready]
  · intro i k a hk ha
    exact (closes.call_of (offers.taken listNodup readyNodup (list ▸ hk) ha).1).agent
  · have none := off h
    subst none
    cases offers
    exact ⟨rfl, closes.readyList.trans ready, fun a => closes.agent_of (agentEq a)⟩
  · refine (ends h).imp (fun h => by rw [closes.queue]; exact h) fun h a ha => ?_
    rw [closes.readyList] at ha
    rw [closes.queue, (closes.agent_same a).qualifies]
    exact h a ha
  · refine closes.agent_of ((offers.agent_kept fun hmem => ha ?_).trans (agentEq a))
    exact (agree.ready a).mp (ready ▸ offers.mem_ready a hmem)
  · rw [← isMember] at hk
    refine closes.call_of ((offers.call_kept fun h => hk (takenList (list ▸ h))).trans ?_)
    rw [State.redefined_call agree, if_neg hk]
  · have kMember := (isMember k).mpr hk
    obtain ⟨c, hc⟩ : ∃ c, c = (s.call k).redefined old new (decide (k ∈ s.listRedefined q d)) s.now := ⟨_, rfl⟩
    obtain ⟨state, agent, since, record, left, taken⟩ := State.redefined_record agree offers closes kMember hc
    obtain ⟨stops, starts, stays, keeps⟩ :=
      (s.call k).redefined_schedule old new (decide (k ∈ s.listRedefined q d)) s.now
    have spent := (s.call k).redefined_spent old new (decide (k ∈ s.listRedefined q d)) s.now
    rw [← hc] at stops starts stays keeps spent
    refine ⟨c.audio, c.channel, c.nextAnnouncement, c.overflowSpent, state, agent, since, record, left, taken,
      fun h => ?_, fun h => ?_, fun hon hoff => ?_, fun hoff hon => ?_, fun hoff hon => ?_, fun h => ?_, ?_, ?_⟩
    · rw [hc]; exact Call.redefined_untuned _ _ _ _ _ (by rwa [← tuned_iff])
    · rw [hc]; exact Call.redefined_music _ _ _ _ _ h
    · exact stops ((on_iff old).mpr hon) ((off_iff new).mpr hoff)
    · exact starts ((off_iff old).mpr hoff) ((on_iff new).mpr hon)
    · exact stays ((off_iff old).mpr hoff) ((on_iff new).mpr hon)
    · exact keeps (by rw [Bool.eq_iff_iff, on_iff, on_iff]; exact h)
    · intro queued changed
      have listed : k ∈ s.listRedefined q d := (State.mem_listRedefined agree q d k).mpr ⟨queued, hk.2⟩
      have differ : ¬ (old.overflowTarget = new.overflowTarget ∧ old.overflowAfter = new.overflowAfter) := by
        rwa [not_and_or]
      rw [spent]
      simp [listed, differ]
    · intro kept
      rw [spent]
      rcases kept with offered | same
      · have unlisted : k ∉ s.listRedefined q d := fun h => by
          have := ((State.mem_listRedefined agree q d k).mp h).1
          rw [offered] at this
          cases this
        simp [unlisted]
      · simp [same]
  · intro marked
    have hm : marked = (s.membersRedefined q d).filter fun k =>
        decide ((s.queue q).params.programme ≠ d.params.programme ∧ (s.call k).retunes d.params.programme = true) &&
          decide (RecordRef.call k ∉ s.notices.backlog) :=
      List.filter_congr fun k _ => by rw [decide_eq_decide.mpr (tuned_iff k)]
    refine ⟨fun full => ⟨fun k hk tuned => ?_, ?_⟩, fun law n0 empty room => ?_⟩
    · exact State.redefined_audio agree offers closes full ((isMember k).mpr hk) ((tuned_iff k).mp tuned)
    · have quiet : u.drain = u := u.drain_full (by rw [offers.rest, State.redefined_rest]; exact full)
      obtain ⟨later, added, none⟩ := offers.backlog
      refine ⟨later, ?_, fun n0 => none (List.length_eq_zero_iff.mp n0)⟩
      rw [closes.notices, quiet, added, State.redefined_backlog agree, hm]
    · have none := List.length_eq_zero_iff.mp n0
      subst none
      cases offers
      rw [closes.notices]
      exact State.redefined_drain agree law q d empty marked hm room

end Sys2Proof.Machine
end

section
/-! PROOFS. The admission walk: where it ends, and what it counts on the way (R7, R9 to R11). -/

namespace Sys2Proof.Machine

/-! ### The admission test -/

/-- The model's admission test is R7. -/
theorem State.accepts_iff (s : State) (q : QueueId) : s.accepts q = true ↔ s.Admits q := by
  have mode : (s.queue q).mode.accept = true ↔ (s.queue q).mode = .OPEN ∨ (s.queue q).mode = .STAGING := by
    cases (s.queue q).mode <;> simp [QMode.accept]
  simp only [State.accepts, Bool.and_eq_true, decide_eq_true_eq, mode, and_assoc]
  rfl

theorem State.divert_queue_eq (s : State) (q r : QueueId) :
    (s.divert q).queue r = if q = r then (s.queue q).divertedOnce else s.queue r := by
  unfold State.divert Queue.divertedOnce
  split
  · simp [State.count, QueueCounters.addDiverted]
  · simp +contextual

/-- The diverted counters have no part in admission, nor in the overflow targets (R7, R9). -/
theorem State.OnlyDiverted.admits {s t : State} (h : s.OnlyDiverted t) (q : QueueId) : t.Admits q ↔ s.Admits q := by
  have offered : t.offeredCount q = s.offeredCount q := by rw [h.rest]; rfl
  unfold State.Admits
  rw [offered, h.queue q]

theorem State.OnlyDiverted.target {s t : State} (h : s.OnlyDiverted t) (q : QueueId) :
    (t.queue q).params.overflowTarget = (s.queue q).params.overflowTarget := by rw [h.queue q]

/-! ### One queue of a walk -/

/-- The state once a walk has refused queue `q`: a queue reached for the first time is counted (R11). -/
def State.refusedBy (s : State) (visited : List QueueId) (q : QueueId) : State :=
  if q ∈ visited then s else s.divert q

/-- A walk stops at a queue it has not visited and that accepts (R9). -/
theorem State.walkBy_accepts (hops : Nat) {visited : List QueueId} {q : QueueId} {s : State} (hv : q ∉ visited)
    (ha : s.Admits q) : State.walkBy hops visited q s = (s, some q) := by
  unfold State.walkBy
  rw [if_pos ⟨hv, (s.accepts_iff q).mpr ha⟩]

/-- A walk passes a queue it has visited or that refuses, while a hop and a target remain (R9). -/
theorem State.walkBy_hops (n : Nat) {visited : List QueueId} {q next : QueueId} {s : State}
    (h : q ∈ visited ∨ ¬ s.Admits q) (target : (s.queue q).params.overflowTarget = some next) :
    State.walkBy (n + 1) visited q s = State.walkBy n (q :: visited) next (s.refusedBy visited q) := by
  have no : ¬ (q ∉ visited ∧ s.accepts q = true) := by
    rw [s.accepts_iff]; exact fun ⟨h1, h2⟩ => h.elim h1 (· h2)
  have same : ((s.refusedBy visited q).queue q).params.overflowTarget = some next :=
    ((s.visit_only visited q).target q).trans target
  rw [State.walkBy, if_neg no]
  unfold State.refusedBy at same ⊢
  dsimp only
  rw [same]

/-- A walk ends without an accepting queue where no hop or no target remains (R9). -/
theorem State.walkBy_stops {hops : Nat} {visited : List QueueId} {q : QueueId} {s : State}
    (h : q ∈ visited ∨ ¬ s.Admits q) (last : hops = 0 ∨ (s.queue q).params.overflowTarget = none) :
    State.walkBy hops visited q s = (s.refusedBy visited q, none) := by
  have no : ¬ (q ∉ visited ∧ s.accepts q = true) := by
    rw [s.accepts_iff]; exact fun ⟨h1, h2⟩ => h.elim h1 (· h2)
  rw [State.walkBy, if_neg no]
  rcases last with rfl | none
  · rfl
  · have same : ((s.refusedBy visited q).queue q).params.overflowTarget = .none :=
      ((s.visit_only visited q).target q).trans none
    unfold State.refusedBy at same ⊢
    dsimp only
    rw [same]
    cases hops <;> rfl

/-- The queues visited, their own queue `own` among them from the start, once `p` has been passed. -/
theorem visited_cons {own : Option QueueId} {p : QueueId} {l visited : List QueueId} (hp : p ∉ l)
    (h : ∀ r ∈ p :: l, r ∈ visited ↔ own = some r) : ∀ r ∈ l, r ∈ p :: visited ↔ own = some r := fun r hr => by
  have : r ≠ p := fun e => hp (e ▸ hr)
  rw [List.mem_cons, or_iff_right this, h r (List.mem_cons_of_mem _ hr)]

/-- Passing one queue and then those of a list is passing them all (R10, R11). -/
theorem State.passed_cons {s : State} {own : Option QueueId} {p : QueueId} {l visited : List QueueId} (hp : p ∉ l)
    (hv : p ∈ visited ↔ own = some p) (x : QueueId) :
    (s.refusedBy visited p).passed own l x = s.passed own (p :: l) x := by
  have one : (s.refusedBy visited p).queue x =
      if x = p ∧ own ≠ some p then (s.queue x).divertedOnce else s.queue x := by
    unfold State.refusedBy
    by_cases h : own = some p
    · simp [hv.mpr h, h]
    · have : p ∉ visited := fun m => h (hv.mp m)
      simp only [this, if_false, State.divert_queue_eq]
      by_cases hx : x = p
      · subst hx; simp [h]
      · simp [hx, Ne.symm hx]
  unfold State.passed
  rw [one]
  by_cases hx : x = p
  · subst hx; simp [hp]
  · simp [hx]

/-! ### The walk as a whole -/

/-- A walk that finds an accepting queue (R9 to R11). -/
theorem State.walkBy_finds {own : Option QueueId} {accepting : QueueId} (path : List QueueId) (hops : Nat)
    (visited : List QueueId) (q : QueueId) (s : State) (start : (path ++ [accepting]).head? = some q)
    (nodup : (path ++ [accepting]).Nodup)
    (chain : List.IsChain (fun a b => (s.queue a).params.overflowTarget = some b) (path ++ [accepting]))
    (short : path.length ≤ hops) (refuse : ∀ r ∈ path, own = some r ∨ ¬ s.Admits r) (accept : s.Admits accepting)
    (foreign : own ≠ some accepting) (seen : ∀ r ∈ path ++ [accepting], r ∈ visited ↔ own = some r) :
    ∃ t, State.walkBy hops visited q s = (t, some accepting) ∧ ∀ x, t.queue x = s.passed own path x := by
  induction path generalizing hops visited q s with
  | nil =>
    cases Option.some.inj start
    have fresh : accepting ∉ visited := fun h => foreign ((seen accepting List.mem_cons_self).mp h)
    exact ⟨s, State.walkBy_accepts hops fresh accept, fun x => by simp [State.passed]⟩
  | cons p path ih =>
    cases Option.some.inj start
    obtain ⟨n, rfl⟩ : ∃ n, hops = n + 1 := ⟨hops - 1, by simp only [List.length_cons] at short; omega⟩
    obtain ⟨hp, nodup⟩ := List.nodup_cons.mp nodup
    obtain ⟨next, hnext⟩ : ∃ next, (path ++ [accepting]).head? = some next := by cases path <;> exact ⟨_, rfl⟩
    obtain ⟨target, chain⟩ := List.isChain_cons.mp chain
    have passes : p ∈ visited ∨ ¬ s.Admits p :=
      (refuse p List.mem_cons_self).imp (seen p List.mem_cons_self).mpr id
    have only : s.OnlyDiverted (s.refusedBy visited p) := s.visit_only visited p
    obtain ⟨t, walk, queues⟩ := ih n (p :: visited) next (s.refusedBy visited p) hnext nodup
      (chain.imp fun a b h => (only.target a).trans h) (Nat.le_of_succ_le_succ short)
      (fun r hr => (refuse r (List.mem_cons_of_mem _ hr)).imp id (mt (only.admits r).mp))
      ((only.admits accepting).mpr accept) (visited_cons hp seen)
    refine ⟨t, (State.walkBy_hops n passes (target next hnext)).trans walk, fun x => (queues x).trans ?_⟩
    exact State.passed_cons (fun h => hp (List.mem_append_left _ h)) (seen p List.mem_cons_self) x

/-- A walk that has come into a ring of queues it has visited ends without an accepting queue and counts nothing
(R9, R10). -/
theorem State.walkBy_round {ring : List QueueId} (hops : Nat) (visited : List QueueId) (q : QueueId) (s : State)
    (hq : q ∈ ring) (seen : ∀ r ∈ ring, r ∈ visited)
    (closed : ∀ r ∈ ring, ∀ n, (s.queue r).params.overflowTarget = some n → n ∈ ring) :
    State.walkBy hops visited q s = (s, none) := by
  have stay : s.refusedBy visited q = s := if_pos (seen q hq)
  induction hops generalizing visited q with
  | zero => rw [State.walkBy_stops (.inl (seen q hq)) (.inl rfl), stay]
  | succ n ih =>
    cases target : (s.queue q).params.overflowTarget with
    | none => rw [State.walkBy_stops (.inl (seen q hq)) (.inr target), stay]
    | some next =>
      rw [State.walkBy_hops n (.inl (seen q hq)) target, stay]
      have more : ∀ r ∈ ring, r ∈ q :: visited := fun r hr => List.mem_cons_of_mem _ (seen r hr)
      exact ih _ next (closed q hq next target) more (if_pos (more next (closed q hq next target)))

/-- A walk that finds no accepting queue: its hops are used up, or no target follows but queues of a ring `ring` that
it will have visited (R9 to R11). -/
theorem State.walkBy_ends {own : Option QueueId} {last : QueueId} (path : List QueueId) (hops : Nat)
    (visited ring : List QueueId) (q : QueueId) (s : State) (start : (path ++ [last]).head? = some q)
    (nodup : (path ++ [last]).Nodup)
    (chain : List.IsChain (fun a b => (s.queue a).params.overflowTarget = some b) (path ++ [last]))
    (short : path.length ≤ hops) (refuse : ∀ r ∈ path ++ [last], own = some r ∨ ¬ s.Admits r)
    (seen : ∀ r ∈ path ++ [last], r ∈ visited ↔ own = some r)
    (ends : path.length = hops ∨ (last ∈ ring ∧ (∀ r ∈ ring, r ∈ visited ∨ r ∈ path ++ [last]) ∧
      ∀ r ∈ ring, ∀ n, (s.queue r).params.overflowTarget = some n → n ∈ ring)) :
    ∃ t, State.walkBy hops visited q s = (t, none) ∧ ∀ x, t.queue x = s.passed own (path ++ [last]) x := by
  induction path generalizing hops visited q s with
  | nil =>
    cases Option.some.inj start
    have passes : last ∈ visited ∨ ¬ s.Admits last :=
      (refuse last List.mem_cons_self).imp (seen last List.mem_cons_self).mpr id
    have queues : ∀ x, (s.refusedBy visited last).queue x = s.passed own ([] ++ [last]) x := fun x => by
      rw [List.nil_append, ← State.passed_cons List.not_mem_nil (seen last List.mem_cons_self) x]
      simp [State.passed]
    refine ⟨s.refusedBy visited last, ?_, queues⟩
    rcases ends with h0 | ⟨hlast, within, closed⟩
    · exact State.walkBy_stops passes (.inl h0.symm)
    · cases hops with
      | zero => exact State.walkBy_stops passes (.inl rfl)
      | succ n =>
        cases target : (s.queue last).params.overflowTarget with
        | none => exact State.walkBy_stops passes (.inr target)
        | some next =>
          have only : s.OnlyDiverted (s.refusedBy visited last) := s.visit_only visited last
          rw [State.walkBy_hops n passes target]
          refine State.walkBy_round (ring := ring) n _ next _ (closed last hlast next target) (fun r hr => ?_)
            fun r hr m hm => closed r hr m ((only.target r).symm.trans hm)
          rcases within r hr with h | h
          · exact List.mem_cons_of_mem _ h
          · exact List.mem_singleton.mp h ▸ List.mem_cons_self
  | cons p path ih =>
    cases Option.some.inj start
    obtain ⟨n, rfl⟩ : ∃ n, hops = n + 1 := ⟨hops - 1, by simp only [List.length_cons] at short; omega⟩
    obtain ⟨hp, nodup⟩ := List.nodup_cons.mp nodup
    obtain ⟨next, hnext⟩ : ∃ next, (path ++ [last]).head? = some next := by cases path <;> exact ⟨_, rfl⟩
    obtain ⟨target, chain⟩ := List.isChain_cons.mp chain
    have passes : p ∈ visited ∨ ¬ s.Admits p :=
      (refuse p List.mem_cons_self).imp (seen p List.mem_cons_self).mpr id
    have only : s.OnlyDiverted (s.refusedBy visited p) := s.visit_only visited p
    have seenNext : ∀ r, r ∈ visited ∨ r ∈ (p :: path) ++ [last] →
        r ∈ p :: visited ∨ r ∈ path ++ [last] := fun r h => by
      simp only [List.cons_append, List.mem_cons] at h ⊢
      tauto
    obtain ⟨t, walk, queues⟩ := ih n (p :: visited) next (s.refusedBy visited p) hnext nodup
      (chain.imp fun a b h => (only.target a).trans h) (Nat.le_of_succ_le_succ short)
      (fun r hr => (refuse r (List.mem_cons_of_mem _ hr)).imp id (mt (only.admits r).mp)) (visited_cons hp seen)
      (ends.imp Nat.succ.inj fun ⟨hlast, within, closed⟩ => ⟨hlast, fun r hr => seenNext r (within r hr),
        fun r hr m hm => closed r hr m ((only.target r).symm.trans hm)⟩)
    refine ⟨t, (State.walkBy_hops n passes (target next hnext)).trans walk, fun x => (queues x).trans ?_⟩
    exact State.passed_cons hp (seen p List.mem_cons_self) x

/-- In a chain every entry but the last is followed by one of the chain. -/
theorem mem_of_isChain_append {R : QueueId → QueueId → Prop} {path : List QueueId} {last r : QueueId}
    (chain : List.IsChain R (path ++ [last])) (hr : r ∈ path ++ [last]) :
    r = last ∨ ∃ n ∈ path ++ [last], R r n := by
  induction path with
  | nil => exact .inl (List.mem_singleton.mp hr)
  | cons p path ih =>
    obtain ⟨follows, chain⟩ := List.isChain_cons.mp chain
    rcases List.mem_cons.mp hr with rfl | hr
    · obtain ⟨next, hnext⟩ : ∃ next, (path ++ [last]).head? = some next := by cases path <;> exact ⟨_, rfl⟩
      exact .inr ⟨next, List.mem_cons_of_mem _ (List.mem_of_mem_head? hnext), follows next hnext⟩
    · exact (ih chain hr).imp id fun ⟨n, hn, h⟩ => ⟨n, List.mem_cons_of_mem _ hn, h⟩

/-- The queues a walk counts as visited from its start (R10). -/
theorem mem_ownList {own : Option QueueId} (r : QueueId) : r ∈ own.toList ↔ own = some r := by
  rw [Option.mem_toList]

theorem State.WalksTo.walk {s : State} {own : Option QueueId} {q accepting : QueueId} {path : List QueueId}
    (h : s.WalksTo own q path accepting) :
    ∃ t, s.walk own.toList q = (t, some accepting) ∧ s.OnlyDiverted t ∧ ∀ x, t.queue x = s.passed own path x := by
  obtain ⟨t, walk, queues⟩ := State.walkBy_finds path 4 own.toList q s h.start h.nodup h.chain h.hops h.refuse
    h.accept.1 h.accept.2 fun r _ => mem_ownList r
  exact ⟨t, walk, by simpa only [walk] using s.walkBy_only 4 own.toList q, queues⟩

theorem State.WalkEndsAt.walk {s : State} {own : Option QueueId} {q last : QueueId} {path : List QueueId}
    (h : s.WalkEndsAt own q path last) :
    ∃ t, s.walk own.toList q = (t, none) ∧ s.OnlyDiverted t ∧ ∀ x, t.queue x = s.passed own (path ++ [last]) x := by
  have closed : (∀ n, (s.queue last).params.overflowTarget = some n → n ∈ path ++ [last]) → ∀ r ∈ path ++ [last],
      ∀ n, (s.queue r).params.overflowTarget = some n → n ∈ path ++ [last] := fun ends r hr n hn => by
    rcases mem_of_isChain_append h.chain hr with rfl | ⟨next, hnext, target⟩
    · exact ends n hn
    · exact Option.some.inj (hn.symm.trans target) ▸ hnext
  obtain ⟨t, walk, queues⟩ := State.walkBy_ends path 4 own.toList (path ++ [last]) q s h.start h.nodup h.chain h.hops
    h.refuse (fun r _ => mem_ownList r) (h.ends.imp id fun ends =>
      ⟨List.mem_append_right _ List.mem_cons_self, fun r hr => .inr hr, closed ends⟩)
  exact ⟨t, walk, by simpa only [walk] using s.walkBy_only 4 own.toList q, queues⟩

end Sys2Proof.Machine
end

section
/-! PROOFS. The marks that operations set, and the words for players, slots and clip starts that a treatment is stated in
(R21, R144, R149 to R151, R189, R190). -/

namespace Sys2Proof.Machine

/-! ### Marks set on the way -/

/-- Between two states at most `n` records have entered the backlog, behind those that stood in it, each with a mark
pending, and no record has lost a mark (R189, R190). -/
structure State.Reports (s t : State) (n : Nat) : Prop where
  marks : ∀ r, s.pendingCount r ≤ t.pendingCount r
  added : ∃ later, t.notices.backlog = s.notices.backlog ++ later ∧ later.length ≤ n ∧ ∀ r ∈ later, t.pendingCount r ≠ 0

theorem State.Reports.trans {s t u : State} {m n : Nat} (h : s.Reports t m) (h' : t.Reports u n) :
    s.Reports u (m + n) := by
  obtain ⟨first, hf, lf, pf⟩ := h.added
  obtain ⟨later, hl, ll, pl⟩ := h'.added
  refine ⟨fun r => (h.marks r).trans (h'.marks r), first ++ later, by rw [hl, hf, List.append_assoc], ?_,
    fun r hr => ?_⟩
  · rw [List.length_append]; exact Nat.add_le_add lf ll
  · rcases List.mem_append.mp hr with hr | hr
    · have := h'.marks r
      have := pf r hr
      omega
    · exact pl r hr

/-- A change that touches no mark and not the backlog. -/
theorem State.Reports.of_same {s t : State} (hm : ∀ r, t.pendingCount r = s.pendingCount r)
    (hb : t.notices.backlog = s.notices.backlog) : s.Reports t 0 :=
  ⟨fun r => (hm r).ge, [], by rw [hb, List.append_nil], le_rfl, fun _ h => nomatch h⟩

theorem State.Reports.mono {s t : State} {m n : Nat} (h : s.Reports t m) (hmn : m ≤ n) : s.Reports t n := by
  obtain ⟨later, hl, len, marked⟩ := h.added
  exact ⟨h.marks, later, hl, len.trans hmn, marked⟩

theorem State.Reports.mem {s t : State} {n : Nat} (h : s.Reports t n) {r : RecordRef} (hr : r ∈ s.notices.backlog) :
    r ∈ t.notices.backlog := by
  obtain ⟨later, hl, -⟩ := h.added
  exact hl ▸ List.mem_append_left _ hr

theorem Marks.count_le_set (m : Marks) (kind : NoticeKind) : m.count ≤ (m.set kind).count := by
  obtain ⟨a, b, c, d⟩ := m
  cases kind <;> cases a <;> cases b <;> cases c <;> cases d <;> decide

theorem Marks.count_set_ne_zero (m : Marks) (kind : NoticeKind) (h : kind ≠ .AGENT) : (m.set kind).count ≠ 0 := by
  cases kind <;> simp_all [Marks.count, Marks.set]

/-- A write of a call's record that keeps its marks. -/
theorem State.setCall_reports (s : State) (k : CallId) (c : Call) (h : c.marks = (s.call k).marks) :
    s.Reports (s.setCall k c) 0 := by
  refine .of_same (fun r => ?_) rfl
  cases r with
  | agent a => rfl
  | call j =>
    rw [State.pendingCount_call, State.pendingCount_call, State.call_setCall]
    split
    · subst_vars; rw [h]
    · rfl

/-- Pool players carry no mark. -/
theorem State.setPool_reports (s : State) (p : PoolId) (r : PoolPlayer) : s.Reports (s.setPool p r) 0 :=
  .of_same (fun r => by cases r <;> rfl) rfl

/-- A write of an agent's record that keeps its mark. -/
theorem State.setAgent_reports (s : State) (a : AgentId) (g : Agent) (h : g.mark = (s.agent a).mark) :
    s.Reports (s.setAgent a g) 0 := by
  refine .of_same (fun r => ?_) rfl
  cases r with
  | call k => rfl
  | agent b =>
    rw [State.pendingCount_agent, State.pendingCount_agent, State.agent_setAgent]
    split
    · subst_vars; rw [h]
    · rfl

/-- The call after a mark, and every other (R189). -/
theorem State.markCall_call (s : State) (k j : CallId) (kind : NoticeKind) : (s.markCall k kind).call j =
    if k = j then { s.call k with marks := (s.call k).marks.set kind } else s.call j := by
  rw [State.markCall_eq]
  simp [State.call, Vector.getElem_set, Fin.ext_iff]

theorem State.markCall_reports (s : State) (k : CallId) (kind : NoticeKind) (h : kind ≠ .AGENT) :
    s.Reports (s.markCall k kind) 1 := by
  have own : (s.markCall k kind).pendingCount (.call k) = ((s.call k).marks.set kind).count := by
    simp [State.pendingCount, State.markCall_call]
  refine ⟨fun r => ?_, ?_⟩
  · cases r with
    | agent a => rw [State.markCall_eq]; exact le_rfl
    | call j =>
      by_cases hj : k = j
      · subst hj; rw [own]; exact Marks.count_le_set _ _
      · simp [State.pendingCount, State.markCall_call, hj]
  · by_cases hb : RecordRef.call k ∈ s.notices.backlog
    · exact ⟨[], by simp [State.markCall_eq, hb], Nat.zero_le _, fun _ h => nomatch h⟩
    · refine ⟨[.call k], by simp [State.markCall_eq, hb], le_rfl, fun r hr => ?_⟩
      rw [List.mem_singleton.mp hr, own]
      exact Marks.count_set_ne_zero _ _ h

theorem State.mem_markAgent_backlog (s : State) (a : AgentId) :
    RecordRef.agent a ∈ (s.markAgent a).notices.backlog := by
  rw [State.markAgent_eq]
  dsimp only
  split
  · assumption
  · exact List.mem_append_right _ List.mem_cons_self

/-- The agent after its mark, and every other (R189). -/
theorem State.markAgent_agent (s : State) (a b : AgentId) : (s.markAgent a).agent b =
    if a = b then { s.agent a with mark := true } else s.agent b := by
  rw [State.markAgent_eq]
  simp [State.agent, Vector.getElem_set, Fin.ext_iff]

theorem State.markAgent_reports (s : State) (a : AgentId) : s.Reports (s.markAgent a) 1 := by
  have own : (s.markAgent a).pendingCount (.agent a) = 1 := by simp [State.pendingCount, State.markAgent_agent]
  refine ⟨fun r => ?_, ?_⟩
  · cases r with
    | call k => rw [State.markAgent_eq]; exact le_rfl
    | agent b =>
      by_cases hb : a = b
      · subst hb; rw [own]; exact Bool.toNat_le _
      · simp [State.pendingCount, State.markAgent_agent, hb]
  · by_cases hb : RecordRef.agent a ∈ s.notices.backlog
    · exact ⟨[], by simp [State.markAgent_eq, hb], Nat.zero_le _, fun _ h => nomatch h⟩
    · refine ⟨[.agent a], by simp [State.markAgent_eq, hb], le_rfl, fun r hr => ?_⟩
      rw [List.mem_singleton.mp hr, own]
      exact Nat.one_ne_zero

/-- An offer sets one mark (R75). -/
theorem State.offer_reports (s : State) (q : QueueId) (k : CallId) (a : AgentId) : s.Reports (s.offer q k a) 1 := by
  have own : (s.offer q k a).pendingCount (.call k) = ((s.call k).marks.set .OFFER).count := by
    simp [State.pendingCount, State.offer_call, Call.offeredTo, Marks.set]
  refine ⟨fun r => ?_, ?_⟩
  · cases r with
    | agent b =>
      rw [State.pendingCount_agent, State.pendingCount_agent, State.offer_agent]
      split
      · subst_vars; exact le_rfl
      · exact le_rfl
    | call j =>
      by_cases hj : k = j
      · subst hj; rw [own]; exact Marks.count_le_set _ _
      · simp [State.pendingCount, State.offer_call, hj]
  · by_cases hb : RecordRef.call k ∈ s.notices.backlog
    · exact ⟨[], by simp [State.offer_eq, hb], Nat.zero_le _, fun _ h => nomatch h⟩
    · refine ⟨[.call k], by simp [State.offer_eq, hb], le_rfl, fun r hr => ?_⟩
      rw [List.mem_singleton.mp hr, own]
      exact Marks.count_set_ne_zero _ _ nofun

theorem State.Offers.reports {q : QueueId} {s t : State} {agents : List AgentId} (h : State.Offers q s agents t) :
    s.Reports t agents.length := by
  induction h with
  | nil s => exact .of_same (fun _ => rfl) rfl
  | @cons s _ k a _ agents _ _ _ ih =>
    rw [List.length_cons, Nat.add_comm]
    exact (s.offer_reports q k a).trans ih

/-- What a command has set between a state with an empty backlog and its drain is posted while the ring has room, and
the NOTICE cause is set (R182, R191). -/
theorem State.Reports.drain_posts {s u : State} {n : Nat} (h : s.Reports u n) (hn : n < 16000) {r : RecordRef}
    (hr : r ∈ u.notices.backlog) (empty : s.notices.backlog = []) (room : 0 < u.ringRoom) :
    u.drain.notices.posted ≠ u.notices.posted ∧ u.drain.port.causes.notice = true := by
  obtain ⟨later, hl, len, marked⟩ := h.added
  rw [empty, List.nil_append] at hl
  obtain ⟨x, rest, hx⟩ := List.exists_cons_of_ne_nil (List.ne_nil_of_mem hr)
  refine u.drain_posts x rest hx (marked x (by rw [← hl, hx]; exact List.mem_cons_self)) room ?_
  rw [← hl, hx, List.length_cons] at len
  omega

/-- A call whose AUDIO mark stands in the backlog before the drain has been reported (R151, R189). -/
theorem State.Reports.audioReported {s u t : State} {n : Nat} (h : s.Reports u n) (hn : n < 16000) (closes : u.Closes t)
    (room : u.ringRoom = s.ringRoom) (posted : u.notices.posted = s.notices.posted) {k : CallId}
    (hk : RecordRef.call k ∈ u.notices.backlog) (marked : (u.call k).marks.audio = true) : s.AudioReported t k where
  waits full := by
    have quiet : u.drain = u := u.drain_full (room.trans full)
    rw [closes.calls, closes.notices, quiet]
    exact ⟨marked, hk⟩
  posts empty space := by
    have := h.drain_posts hn hk empty (room ▸ space)
    rw [closes.notices, closes.cause, ← posted]
    exact ⟨this.1.symm, this.2⟩

/-- And an agent whose mark stands there (R102, R189). -/
theorem State.Reports.agentReported {s u t : State} {n : Nat} (h : s.Reports u n) (hn : n < 16000) (closes : u.Closes t)
    (room : u.ringRoom = s.ringRoom) (posted : u.notices.posted = s.notices.posted) {a : AgentId}
    (ha : RecordRef.agent a ∈ u.notices.backlog) (marked : (u.agent a).mark = true) : s.AgentReported t a where
  waits full := by
    have quiet : u.drain = u := u.drain_full (room.trans full)
    rw [closes.agents, closes.notices, quiet]
    exact ⟨marked, ha⟩
  posts empty space := by
    have := h.drain_posts hn ha empty (room ▸ space)
    rw [closes.notices, closes.cause, ← posted]
    exact ⟨this.1.symm, this.2⟩

/-! ### A treatment that begins -/

theorem ClipStore.base_eq (st : ClipStore) (k : SegmentId) :
    lowerBound st.bounds.toList k.val = st.boundaryBefore k := by
  unfold lowerBound ClipStore.boundaryBefore ClipStore.boundary
  by_cases h : k = 0
  · simp [h]
  · have pos : k.val ≠ 0 := fun e => h (Fin.ext e)
    have pred : (k - 1).val = k.val - 1 := by
      rw [Fin.sub_val_of_le (by rw [Fin.le_def]; exact Nat.one_le_iff_ne_zero.mpr pos)]
      rfl
    have lt : k.val - 1 < 64 := by omega
    simp [h, pos, pred, List.getD_eq_getElem?_getD, lt]

/-- A clip start is the clip taken up (R144). -/
theorem ClipStore.startClip_eq (st : ClipStore) (place : Nat) (e : ClipEntry) :
    st.startClip place e = st.taken place e := by
  simp only [ClipStore.startClip, ClipStore.taken, ClipStore.capture, ClipStore.base, ClipStore.size,
    ClipStore.base_eq]
  rfl

/-- The player of a script of one clip (R149, R151). -/
theorem seekScript_single (st : ClipStore) (g : ClipId) (e : ClipEntry) (h : st.clip g = some e) :
    seekScript st [g] 0 = some (st.taken 0 e) := by
  simp [seekScript, ClipStore.firstDefined, h, ClipStore.startClip_eq]

theorem State.scheduled_eq (s : State) (q : QueueId) : s.scheduled q =
    if (s.queue q).params.announceMode ≠ .NONE ∧ (s.queue q).params.announceInterval ≠ 0 then
      some (s.inSeconds (s.queue q).params.announceInterval) else none := by
  unfold State.scheduled
  rw [Queue.announcing_eq, announces]
  simp only [decide_eq_true_eq]
  rfl

/-- The first index with a property is the lowest. -/
theorem find?_finRange {n : Nat} (p : Fin n → Bool) (i : Fin n) :
    (List.finRange n).find? p = some i ↔ p i = true ∧ ∀ j < i, p j = false := by
  rw [List.find?_eq_some_iff_getElem]
  simp only [List.getElem_finRange, List.length_finRange]
  refine and_congr_right fun _ => ⟨?_, fun h => ⟨i.val, i.isLt, rfl, fun j hj => ?_⟩⟩
  · rintro ⟨m, hm, rfl, before⟩ j hj
    simpa using before j.val hj
  · simpa using h ⟨j, hj.trans i.isLt⟩ hj

/-- The lowest IDLE player (R149). -/
theorem State.idlePlayer_eq_some (s : State) (p : PoolId) : s.idlePlayer = some p ↔
    (s.pool p).state = .IDLE ∧ ∀ p' < p, ¬ (s.pool p').state = .IDLE := by
  simp [State.idlePlayer, find?_finRange]

/-- The lowest FREE slot (R21). -/
theorem State.freeSlot_eq_some (s : State) (k : CallId) : s.freeSlot = some k ↔
    (s.call k).state = .FREE ∧ ∀ k' < k, (s.call k').state ≠ .FREE := by
  rw [State.freeSlot, find?_finRange]
  simp only [beq_iff_eq, beq_eq_false_iff_ne]

theorem State.freeSlot_eq_none (s : State) : s.freeSlot = none ↔ ∀ k, (s.call k).state ≠ .FREE := by
  rw [State.freeSlot, List.find?_eq_none]
  simp only [List.mem_finRange, true_implies, beq_iff_eq, ne_eq]

theorem State.idlePlayer_eq_none (s : State) : s.idlePlayer = none ↔ ∀ p, ¬ (s.pool p).state = .IDLE := by
  simp [State.idlePlayer, List.find?_eq_none]

/-- A queue greets its calls: its greeting names a clip that is not EMPTY (R151). -/
def State.Greets (s : State) (q : QueueId) : Prop :=
  ∃ g, (s.queue q).params.greeting = some g ∧ s.store.clip g ≠ none

end Sys2Proof.Machine
end

section
/-! PROOFS. A treatment that begins: the player, the channel and the mark it gives a call (R149 to R151). -/

namespace Sys2Proof.Machine

/-- What the beginning of a treatment does: a greeting on the lowest IDLE player, or else music or silence (R151). -/
theorem State.beginTreatment_cases (s : State) (k : CallId) (q : QueueId) (hq : (s.call k).queue = q) :
    (∃ g e p, (s.queue q).params.greeting = some g ∧ s.store.clip g = some e ∧ s.idlePlayer = some p ∧
      s.beginTreatment k = s.takePlayer k p [g] .GREETING) ∨
    ((¬ s.Greets q ∨ s.idlePlayer = none) ∧
      ((∃ pr, (s.queue q).params.programme = some pr ∧ s.beginTreatment k =
        (s.setCall k
          { s.call k with
            audio := .MUSIC, channel := some pr.val, nextAnnouncement := s.scheduled q }).markCall k .AUDIO) ∨
      ((s.queue q).params.programme = none ∧ s.beginTreatment k =
        s.setCall k { s.call k with audio := .SILENT, channel := none, nextAnnouncement := s.scheduled q }))) := by
  subst hq
  unfold State.beginTreatment State.Greets
  dsimp only
  cases hg : (s.queue (s.call k).queue).params.greeting with
  | none => exact .inr ⟨by simp, by cases (s.queue (s.call k).queue).params.programme <;> simp⟩
  | some g =>
    cases he : s.store.clip g with
    | none => exact .inr ⟨by simp [he], by cases (s.queue (s.call k).queue).params.programme <;> simp [he]⟩
    | some e =>
      cases hp : s.idlePlayer with
      | none => exact .inr ⟨by simp, by cases (s.queue (s.call k).queue).params.programme <;> simp [he]⟩
      | some p => exact .inl ⟨g, e, p, rfl, he, rfl, by simp [he]⟩

theorem State.takePlayer_call (s : State) (k j : CallId) (p : PoolId) (script : List ClipId) (audio : AudioState) :
    (s.takePlayer k p script audio).call j =
      if k = j then
        { s.call k with
          audio := audio, channel := some (16 + p.val), poolPlayer := some p, nextAnnouncement := none
          marks := { (s.call k).marks with audio := true } }
      else s.call j := by
  rw [State.takePlayer_eq]
  simp [State.call, Vector.getElem_set, Fin.ext_iff]

theorem State.takePlayer_pool (s : State) (k : CallId) (p r : PoolId) (script : List ClipId) (audio : AudioState) :
    (s.takePlayer k p script audio).pool r =
      if p = r then
        { state := .PLAYING, owner := some (s.handle k), script := script
          player := (seekScript s.store script 0).getD .reset }
      else s.pool r := by
  rw [State.takePlayer_eq]
  simp [State.pool, Vector.getElem_set, Fin.ext_iff]

/-- A write of a call's audio fields sets no mark. -/
theorem State.setAudio_reports (s : State) (k : CallId) (audio : AudioState) (channel : Option Nat)
    (next : Option Deadline) :
    s.Reports (s.setCall k { s.call k with audio := audio, channel := channel, nextAnnouncement := next }) 0 :=
  s.setCall_reports k { s.call k with audio := audio, channel := channel, nextAnnouncement := next } rfl

/-- Treatment of call `k` has begun in queue `q` between two states: its audio, its player and its AUDIO mark (R149 to
R151, R189). -/
structure State.BeginsTreatment (s t : State) (q : QueueId) (k : CallId) : Prop where
  treated : ∃ d : Call, s.Treated q (fun p => (s.pool p).state = .IDLE) d ∧ (t.call k).audio = d.audio ∧
    (t.call k).channel = d.channel ∧ (t.call k).nextAnnouncement = d.nextAnnouncement ∧
    ((s.call k).poolPlayer = none → (t.call k).poolPlayer = d.poolPlayer)
  players : (s.call k).poolPlayer = none → s.PoolTaken t q k none
  marked : (t.call k).channel ≠ none → (t.call k).marks = { (s.call k).marks with audio := true } ∧
    t.notices.backlog = if .call k ∈ s.notices.backlog then s.notices.backlog else s.notices.backlog ++ [.call k]
  unmarked : (t.call k).channel = none → (t.call k).marks = (s.call k).marks ∧ t.notices = s.notices
  reports : s.Reports t 1

/-- A call that is greeted (R151). -/
theorem State.takePlayer_begins (s : State) (k : CallId) (q : QueueId) (g : ClipId) (e : ClipEntry) (p : PoolId)
    (hg : (s.queue q).params.greeting = some g) (he : s.store.clip g = some e) (hp : s.idlePlayer = some p) :
    s.BeginsTreatment (s.takePlayer k p [g] .GREETING) q k := by
  have call : (s.takePlayer k p [g] .GREETING).call k =
      { s.call k with
        audio := .GREETING, channel := some (16 + p.val), poolPlayer := some p, nextAnnouncement := none
        marks := { (s.call k).marks with audio := true } } := by rw [State.takePlayer_call, if_pos rfl]
  have idle := (s.idlePlayer_eq_some p).mp hp
  refine ⟨⟨(s.takePlayer k p [g] .GREETING).call k, ⟨fun _ p' free lowest => ?_, fun h => ?_⟩, rfl, rfl, rfl,
    fun _ => rfl⟩,
    fun _ => ⟨fun p' h => ?_, fun p' h => ?_⟩, fun _ => ?_, fun h => ?_, ?_⟩
  · have : p = p' := Option.some.inj (hp.symm.trans ((s.idlePlayer_eq_some p').mpr ⟨free, lowest⟩))
    subst this
    rw [call]
    exact ⟨rfl, rfl, rfl, rfl⟩
  · rcases h with h | h
    · exact absurd ⟨g, hg, by simp [he]⟩ h
    · exact absurd idle.1 (h p)
  · have : p = p' := by rw [call] at h; exact Option.some.inj h
    subst this
    refine ⟨g, e, hg, he, ?_⟩
    rw [State.takePlayer_pool, if_pos rfl, seekScript_single _ _ _ he]
    rfl
  · have : p ≠ p' := fun e => by rw [call, e] at h; exact h rfl
    rw [State.takePlayer_pool, if_neg this]
    simp
  · rw [call]
    exact ⟨rfl, by rw [State.takePlayer_eq]⟩
  · rw [call] at h
    cases h
  · have written := (s.setPool_reports p
        ⟨.PLAYING, some (s.handle k), [g],
          match seekScript s.store [g] 0 with | some player => player | none => .reset⟩)
    exact (written.trans (State.setCall_reports _ k
      { s.call k with
        audio := .GREETING, channel := some (16 + p.val), poolPlayer := some p, nextAnnouncement := none } rfl)).trans
      (State.markCall_reports _ k .AUDIO (by decide))

/-- The same fields in the case of no greeting: music or silence, no player, the schedule of the queue (R151). -/
theorem State.treated_plain {s : State} {q : QueueId} {d : Call}
    (none : ¬ s.Greets q ∨ s.idlePlayer = none) (player : d.poolPlayer = .none)
    (next : d.nextAnnouncement = s.scheduled q)
    (music : ∀ pr, (s.queue q).params.programme = some pr → d.audio = .MUSIC ∧ d.channel = some pr.val)
    (silence : (s.queue q).params.programme = .none → d.audio = .SILENT ∧ d.channel = .none) :
    s.Treated q (fun p => (s.pool p).state = .IDLE) d := by
  refine ⟨fun greets p free _ => ?_, fun _ => ⟨player, next.trans (s.scheduled_eq q), music, silence⟩⟩
  rcases none with h | h
  · exact absurd greets h
  · exact absurd free ((s.idlePlayer_eq_none).mp h p)

/-- Treatment begins: in each case as R151 gives it. -/
theorem State.beginTreatment_begins (s : State) (k : CallId) (q : QueueId) (hq : (s.call k).queue = q) :
    s.BeginsTreatment (s.beginTreatment k) q k := by
  have pools : ∀ t : State, t.treatment = s.treatment → (t.call k).poolPlayer = (s.call k).poolPlayer →
      (s.call k).poolPlayer = none → s.PoolTaken t q k none := fun t ht hp none =>
    ⟨fun p h => (by rw [hp, none] at h; cases h), fun p _ => (by simp [State.pool, ht])⟩
  rcases s.beginTreatment_cases k q hq with ⟨g, e, p, hg, he, hp, h⟩ | ⟨plain, ⟨pr, hpr, h⟩ | ⟨hpr, h⟩⟩
  · rw [h]; exact s.takePlayer_begins k q g e p hg he hp
  · have call : (s.beginTreatment k).call k =
        { s.call k with
          audio := .MUSIC, channel := some pr.val, nextAnnouncement := s.scheduled q
          marks := { (s.call k).marks with audio := true } } := by
      rw [h, State.markCall_call, if_pos rfl, State.call_setCall, if_pos rfl]; rfl
    refine ⟨⟨{ (s.beginTreatment k).call k with poolPlayer := none }, ?_, rfl, rfl, rfl, fun none => ?_⟩,
      pools _ (by rw [h, State.markCall_eq]; rfl) (by rw [call]), fun _ => ?_, fun none => ?_, ?_⟩
    · refine State.treated_plain plain rfl (by rw [call]) (fun pr' h' => ?_) fun h' => ?_
      · cases Option.some.inj (hpr.symm.trans h'); rw [call]; exact ⟨rfl, rfl⟩
      · rw [hpr] at h'; cases h'
    · rw [call]; exact none
    · rw [call]; exact ⟨rfl, by rw [h, State.markCall_eq]; rfl⟩
    · rw [call] at none; cases none
    · rw [h]
      exact (s.setAudio_reports k _ _ _).trans (State.markCall_reports _ k .AUDIO (by decide))
  · have call : (s.beginTreatment k).call k =
        { s.call k with audio := .SILENT, channel := none, nextAnnouncement := s.scheduled q } := by
      rw [h, State.call_setCall, if_pos rfl]
    refine ⟨⟨{ (s.beginTreatment k).call k with poolPlayer := none }, ?_, rfl, rfl, rfl, fun none => ?_⟩,
      pools _ (by rw [h]; rfl) (by rw [call]), fun some => ?_, fun _ => ?_, ?_⟩
    · refine State.treated_plain plain rfl (by rw [call]) (fun pr h' => ?_) fun _ => ?_
      · rw [hpr] at h'; cases h'
      · rw [call]; exact ⟨rfl, rfl⟩
    · rw [call]; exact none
    · rw [call] at some; exact absurd rfl some
    · rw [call, h]; exact ⟨rfl, rfl⟩
    · rw [h]
      exact (s.setAudio_reports k _ _ _).mono (Nat.zero_le _)

/-! ### What a treatment depends on -/

/-- A treatment looks at the queue's parameters, the clip store, T and the free players alone (R151). -/
theorem State.Treated.congr {s v : State} {q : QueueId} {free free' : PoolId → Prop} {d : Call}
    (h : v.Treated q free d) (params : (v.queue q).params = (s.queue q).params) (store : v.store = s.store)
    (now : v.now = s.now) (players : ∀ p, free' p ↔ free p) : s.Treated q free' d := by
  have same : free' = free := funext fun p => propext (players p)
  have seconds : ∀ n, v.inSeconds n = s.inSeconds n := fun n => by unfold State.inSeconds; rw [now]
  subst same
  unfold State.Treated at *
  simpa only [params, store, seconds] using h

/-- A player taken in a state whose players differ from `s` by the one released (R149). -/
theorem State.PoolTaken.congr {s v t : State} {q : QueueId} {k : CallId} {freed : Option PoolId}
    (h : v.PoolTaken t q k none) (params : (v.queue q).params = (s.queue q).params) (store : v.store = s.store)
    (handle : v.handle k = s.handle k)
    (players : ∀ p, v.pool p = if freed = some p then State.reset.pool p else s.pool p) : s.PoolTaken t q k freed where
  taken p hp := by
    obtain ⟨g, e, hg, he, ht⟩ := h.taken p hp
    exact ⟨g, e, params ▸ hg, store ▸ he, by rw [ht, handle, store]⟩
  others p hp := by
    rw [h.others p hp, if_neg nofun, players p]

end Sys2Proof.Machine
end

section
/-! PROOFS. A call that joins a queue, and what follows its join when nothing in the queue can be offered (R25 to R29,
R68). -/

namespace Sys2Proof.Machine

/-! ### The join -/

/-- A call as a join to queue `q` leaves it (R26, R27). -/
def State.joinedCall (s : State) (k : CallId) (q : QueueId) : Call :=
  { s.call k with
    state := .QUEUED, queue := q, entry := if (s.queue q).params.carryWait then (s.call k).arrival else s.now
    joinSeq := s.joinSeq }

section
variable (s : State) (k : CallId) (q : QueueId)

theorem State.join_rest : s.join k q =
    { s with
      queues := (s.join k q).queues, joinSeq := min (s.joinSeq + 1) 4294967295, calls := (s.join k q).calls } := by
  rw [State.join_eq]
  rfl

theorem State.join_call (j : CallId) :
    (s.join k q).call j = if k = j then s.joinedCall k q else s.call j := by
  rw [State.join_eq]
  simp [State.call, Vector.getElem_set, Fin.ext_iff, State.joinedCall]

theorem State.join_queue_other {r : QueueId} (h : r ≠ q) : (s.join k q).queue r = s.queue r := by
  rw [State.join_eq]
  have : q.val ≠ r.val := fun e => h (Fin.ext e.symm)
  simp [State.queue, this]

theorem State.join_queue_self : (s.join k q).queue q =
    { (s.queue q).enteredOnce with waiting := ((s.join k q).queue q).waiting } := by
  rw [State.join_eq]
  simp [State.queue, Queue.enteredOnce, QueueCounters.addEntered]

/-- The call takes a place among those that wait (R25). -/
theorem State.join_waiting : ((s.join k q).queue q).waiting.Perm (k :: (s.queue q).waiting) := by
  rw [State.join_eq]
  simpa [State.queue] using State.keyedInsert_perm _ _ _ _

theorem State.join_params (r : QueueId) : ((s.join k q).queue r).params = (s.queue r).params := by
  by_cases h : r = q
  · subst h; rw [State.join_queue_self]; rfl
  · rw [State.join_queue_other _ _ _ h]

theorem State.join_agent (a : AgentId) : (s.join k q).agent a = s.agent a := by rw [State.join_rest]; rfl

theorem State.join_now : (s.join k q).now = s.now := by rw [State.join_rest]; rfl

theorem State.join_handle (j : CallId) : (s.join k q).handle j = s.handle j := by
  rw [State.handle, State.handle, State.join_call]
  split
  case isTrue h => rw [← h]; rfl
  case isFalse => rfl

theorem State.join_reports : s.Reports (s.join k q) 0 := by
  refine .of_same (fun r => ?_) (by rw [State.join_rest])
  cases r with
  | agent a => rw [State.pendingCount_agent, State.pendingCount_agent, State.join_agent]
  | call j =>
    rw [State.pendingCount_call, State.pendingCount_call, State.join_call]
    split
    · subst_vars; rfl
    · rfl

end

/-! ### Where nothing can be offered -/

/-- Whether something can be offered looks at the queue's mode and parameters, the ready list and the agents (R68). -/
theorem State.NoOffer.congr {s t : State} {q : QueueId} (h : s.NoOffer q) (mode : (t.queue q).mode = (s.queue q).mode)
    (params : (t.queue q).params = (s.queue q).params) (ready : t.readyList = s.readyList)
    (agents : ∀ a ∈ s.readyList, t.agent a = s.agent a) : t.NoOffer q := by
  refine h.imp (mode ▸ ·) fun none a ha => ?_
  rw [ready] at ha
  rw [agents a ha, Agent.qualifies_congr _ params]
  exact none a ha

theorem State.NoOffer.join {s : State} {q : QueueId} (h : s.NoOffer q) (k : CallId) : (s.join k q).NoOffer q :=
  h.congr (by rw [State.join_queue_self]; rfl) (s.join_params k q q) (by rw [State.join_rest])
    fun a _ => s.join_agent k q a

/-- Where nothing can be offered a sweep does nothing (R68). -/
theorem State.NoOffer.sweep {s : State} {q : QueueId} (h : s.NoOffer q) : s.sweep q = s := by
  rcases h with off | none
  · exact s.sweep_off q off
  · unfold State.sweep
    split
    · cases s.depth q with
      | zero => rfl
      | succ n =>
        unfold State.sweepBy
        split
        · rfl
        · rw [(s.chooseAgent_none q).mpr none]
    · rfl

/-- And a call that joins there begins its treatment (R29, R35, R36). -/
theorem State.NoOffer.settleJoin {s : State} {q : QueueId} (h : s.NoOffer q) (k : CallId) :
    (s.join k q).settleJoin k q = (s.join k q).beginTreatment k := by
  have queued : ((s.join k q).call k).state = .QUEUED := by rw [State.join_call, if_pos rfl]; rfl
  unfold State.settleJoin
  dsimp only
  rw [(h.join k).sweep, if_pos queued]

/-! ### The state after a walk -/

namespace State.OnlyDiverted

variable {s t : State} (h : s.OnlyDiverted t)
include h

theorem call (k : CallId) : t.call k = s.call k := by rw [h.rest]; rfl
theorem agent (a : AgentId) : t.agent a = s.agent a := by rw [h.rest]; rfl
theorem pool (p : PoolId) : t.pool p = s.pool p := by rw [h.rest]; rfl
theorem now : t.now = s.now := by rw [h.rest]; rfl
theorem store : t.store = s.store := by rw [h.rest]
theorem notices : t.notices = s.notices := by rw [h.rest]
theorem port : t.port = s.port := by rw [h.rest]
theorem bus : t.bus = s.bus := by rw [h.rest]
theorem joinSeq : t.joinSeq = s.joinSeq := by rw [h.rest]
theorem readyList : t.readyList = s.readyList := by rw [h.rest]
theorem ringRoom : t.ringRoom = s.ringRoom := by rw [h.rest]; rfl

theorem sameLibrary : s.SameLibrary t := State.sameLibrary_of_rest (by rw [h.rest])

end State.OnlyDiverted

theorem State.NoOffer.walked {s t : State} {q : QueueId} (h : s.NoOffer q) (walked : s.OnlyDiverted t) : t.NoOffer q :=
  h.congr (by rw [walked.queue]) (by rw [walked.queue]) walked.readyList fun a _ => walked.agent a

/-- The queue that accepts is not one the walk has passed. -/
theorem State.WalksTo.accepting_kept {s t : State} {own : Option QueueId} {q accepting : QueueId} {path : List QueueId}
    (h : s.WalksTo own q path accepting) (queues : ∀ x, t.queue x = s.passed own path x) :
    t.queue accepting = s.queue accepting := by
  have : accepting ∉ path := fun m => (List.nodup_append.mp h.nodup).2.2 _ m _ List.mem_cons_self rfl
  rw [queues, State.passed, if_neg fun m => this m.1]

/-- A state that differs in the diverted counters alone, with its reply. -/
theorem State.OnlyDiverted.replying {s t : State} (h : s.OnlyDiverted t) (hs : s.Taking) (cls : ReplyClass)
    (reason : Reason) (payload : List Word) (code : BitVec 8) (tag : Tag) :
    t.toReply (Answer.reply ⟨cls, reason, 0, payload, []⟩ code tag) =
      { s.replying cls reason code tag payload with queues := t.queues } := by
  rw [State.toReply_replying _ _ _ _ _ _ (h.port ▸ hs.2)]
  conv_lhs => rw [h.rest]
  rfl

/-! ### Treatment and its marks in other states -/

namespace State.OnlyTreatment

variable {s t : State} {k : CallId} (h : s.OnlyTreatment t k)
include h

theorem queue (q : QueueId) : t.queue q = s.queue q := by rw [h.rest]; rfl
theorem agent (a : AgentId) : t.agent a = s.agent a := by rw [h.rest]; rfl
theorem readyList : t.readyList = s.readyList := by rw [h.rest]
theorem state : (t.call k).state = (s.call k).state := (congrArg Call.state h.call :)

end State.OnlyTreatment

/-- The player taken is not touched by the close of the request. -/
theorem State.PoolTaken.closed {s u t : State} {q : QueueId} {k : CallId} {freed : Option PoolId}
    (h : s.PoolTaken u q k freed) (closes : u.Closes t) : s.PoolTaken t q k freed where
  taken p hp := by
    rw [closes.pool]
    exact h.taken p ((closes.call_same k).poolPlayer ▸ hp)
  others p hp := by
    rw [closes.pool]
    exact h.others p ((closes.call_same k).poolPlayer ▸ hp)

/-- A report counts from the ring and the backlog alone (R189). -/
theorem State.AudioReported.congr {s s' t : State} {k : CallId} (h : s.AudioReported t k)
    (notices : s'.notices = s.notices) (port : s'.port = s.port) : s'.AudioReported t k := by
  have room : s'.ringRoom = s.ringRoom := by
    unfold State.ringRoom State.ringOccupancy State.ringCount
    rw [notices, port]
  exact ⟨fun full => h.waits (room ▸ full), fun empty space => notices ▸ h.posts (notices ▸ empty) (room ▸ space)⟩

/-- A record written from another but for what the notice unit writes. -/
theorem Call.sameButNotices_of {c d : Call} {marks : Marks} {movedFrom : Option QueueId}
    {withdrawnAgent : Option AgentId} {offerPosted : Bool} {offerDeadline : Option Deadline}
    (h : d = { c with
      marks := marks, movedFrom := movedFrom, withdrawnAgent := withdrawnAgent, offerPosted := offerPosted
      offerDeadline := offerDeadline }) : c.SameButNotices d := by
  subst h
  rfl

/-! ### A call that waits -/

/-- Call `k` has joined queue `q` between two states and waits there, treated (R26 to R29, R149 to R151, R189). -/
structure State.Waits (b u : State) (k : CallId) (q : QueueId) : Prop where
  rest : u = { b with
    queues := u.queues, joinSeq := min (b.joinSeq + 1) 4294967295, calls := u.calls
    treatment := { b.treatment with pool := u.treatment.pool }
    notices := { b.notices with backlog := u.notices.backlog } }
  call : u.call k = { b.joinedCall k q with
    audio := (u.call k).audio, channel := (u.call k).channel, poolPlayer := (u.call k).poolPlayer
    nextAnnouncement := (u.call k).nextAnnouncement, marks := (u.call k).marks }
  treated : ∃ d : Call, b.Treated q (fun p => (b.pool p).state = .IDLE) d ∧ (u.call k).audio = d.audio ∧
    (u.call k).channel = d.channel ∧ (u.call k).nextAnnouncement = d.nextAnnouncement ∧
    ((b.call k).poolPlayer = none → (u.call k).poolPlayer = d.poolPlayer)
  players : (b.call k).poolPlayer = none → b.PoolTaken u q k none
  others : ∀ j, j ≠ k → u.call j = b.call j
  queue : u.queue q = { (b.queue q).enteredOnce with waiting := (u.queue q).waiting }
  waiting : (u.queue q).waiting.Perm (k :: (b.queue q).waiting)
  otherQueues : ∀ r, r ≠ q → u.queue r = b.queue r
  marked : (u.call k).channel ≠ none → (u.call k).marks = { (b.call k).marks with audio := true } ∧
    u.notices.backlog = if .call k ∈ b.notices.backlog then b.notices.backlog else b.notices.backlog ++ [.call k]
  unmarked : (u.call k).channel = none → u.notices = b.notices
  reports : b.Reports u 1

/-- A call that joins where nothing can be offered waits (R29, R35, R36). -/
theorem State.NoOffer.waits {b : State} {q : QueueId} (h : b.NoOffer q) (k : CallId) :
    b.Waits ((b.join k q).settleJoin k q) k q := by
  have joined : (b.join k q).call k = b.joinedCall k q := by rw [State.join_call, if_pos rfl]
  have only : (b.join k q).OnlyTreatment ((b.join k q).beginTreatment k) k := State.beginTreatment_only _ k
  have begins := (b.join k q).beginTreatment_begins k q (by rw [joined]; rfl)
  have params := b.join_params k q q
  have store : (b.join k q).store = b.store := by rw [State.join_rest]
  have pool : ∀ p, (b.join k q).pool p = b.pool p := fun p => by rw [State.join_rest]; rfl
  have notices : (b.join k q).notices = b.notices := by rw [State.join_rest]
  rw [h.settleJoin k]
  generalize (b.join k q).beginTreatment k = u at only begins
  have marked := begins.marked
  have treated := begins.treated
  have players := begins.players
  have call := only.call
  rw [joined] at marked treated players call
  refine ⟨?_, call, ?_, fun none => ?_, fun j hj => ?_, ?_, ?_, fun r hr => ?_, fun heard => ?_, fun silent => ?_,
    (b.join_reports k q).trans begins.reports⟩
  · rw [only.rest, State.join_rest]
  · obtain ⟨d, treated, fields⟩ := treated
    exact ⟨d, treated.congr params store (b.join_now k q) fun p => by rw [pool], fields⟩
  · exact (players none).congr params store (b.join_handle k q k) fun p => by rw [if_neg nofun, pool]
  · rw [only.others j hj, State.join_call, if_neg (Ne.symm hj)]
  · rw [only.queue]; exact b.join_queue_self k q
  · rw [only.queue]; exact b.join_waiting k q
  · rw [only.queue]; exact b.join_queue_other k q hr
  · rw [notices] at marked; exact marked heard
  · exact (begins.unmarked silent).2.trans notices

namespace State.Waits

variable {b u : State} {k : CallId} {q : QueueId} (h : b.Waits u k q)
include h

/-- A call put on a channel is marked, and stands in the backlog (R151, R190). -/
theorem heard (heard : (u.call k).channel ≠ none) :
    (u.call k).marks.audio = true ∧ RecordRef.call k ∈ u.notices.backlog := by
  obtain ⟨marks, backlog⟩ := h.marked heard
  refine ⟨by rw [marks], ?_⟩
  rw [backlog]
  split
  · assumption
  · exact List.mem_append_right _ List.mem_cons_self

theorem sameLibrary : b.SameLibrary u := State.sameLibrary_of_rest (by rw [h.rest])

end State.Waits

end Sys2Proof.Machine
end

section
/-! PROOFS. C_ARRIVE (R28, R29). -/

namespace Sys2Proof.Machine

/-- The state in which a call made in slot `k` has been written, before it joins a queue (R29). -/
def State.withArrival (s : State) (k : CallId) (callerTag : Word) (cls : Nat) : State :=
  s.setCall k (.arrived (s.call k).gen callerTag cls s.now)

section
variable {s : State} {q : QueueId} {k : CallId} (hs : s.Taking) (hq : (s.queue q).defined = true) (tag : Tag)
  (callerTag cls : Word)
include hs hq

/-- A C_ARRIVE whose walk ends in an accepting queue (R28). -/
theorem State.Taking.cArrive_accepted {t : State} {accepting : QueueId} (slot : s.freeSlot = some k)
    (walk : s.walk [] q = (t, some accepting)) : exec (.cArrive tag callerTag (word q.val) cls) s =
      .next ((t.arrive k accepting callerTag (min cls.toNat 3)).drain.toReply (Answer.reply
        ⟨clampClass (decide (3 < cls.toNat)), clampReason (decide (3 < cls.toNat)), 0,
          [((t.arrive k accepting callerTag (min cls.toNat 3)).handle k).word, word accepting.val,
            word ((t.arrive k accepting callerTag (min cls.toNat 3)).call k).state.code], []⟩ 0x20 tag)) := by
  refine (hs.takes _ rfl).trans ?_
  simp only [State.cArriveBody, idOf_word (show 64 ≤ 4294967296 by decide), hq, Bool.not_true, Bool.false_eq_true,
    if_false, slot, walk, Answer.clamped_eq]
  rfl

/-- A C_ARRIVE whose walk ends without one (R28). -/
theorem State.Taking.cArrive_diverted {t : State} (slot : s.freeSlot = some k) (walk : s.walk [] q = (t, none)) :
    exec (.cArrive tag callerTag (word q.val) cls) s =
      .next (t.toReply (Answer.reply ⟨.REFUSED, .DIVERTED, 0, [], []⟩ 0x20 tag)) := by
  refine (hs.takes _ rfl).trans ?_
  simp only [State.cArriveBody, idOf_word (show 64 ≤ 4294967296 by decide), hq, Bool.not_true, Bool.false_eq_true,
    if_false, slot, walk]
  rfl

/-- A C_ARRIVE without a FREE slot (R28). -/
theorem State.Taking.cArrive_full (slot : s.freeSlot = none) : exec (.cArrive tag callerTag (word q.val) cls) s =
    .next (s.replying .REFUSED .TABLE_FULL 0x20 tag []) := by
  refine hs.answers rfl ?_
  simp only [State.cArriveBody, idOf_word (show 64 ≤ 4294967296 by decide), hq, Bool.not_true, Bool.false_eq_true,
    if_false, slot]
  rfl

end

/-- The queues a walk without an own queue has passed (R11). -/
theorem State.passed_none (s : State) (path : List QueueId) (x : QueueId) :
    s.passed none path x = if x ∈ path then (s.queue x).divertedOnce else s.queue x := by simp [State.passed]

/-- The one mark of a new call posts one notice into a ring with room (R190, R191). -/
theorem State.drain_audio (u : State) (k : CallId) (backlog : u.notices.backlog = [.call k])
    (marks : (u.call k).marks = { Marks.empty with audio := true }) (room : 0 < u.ringRoom) :
    u.drain.notices.posted = u.notices.posted + 1 ∧ u.drain.notices.backlog = [] ∧
      (u.drain.call k).marks.audio = false := by
  have one : u.pendingCount (.call k) = 1 := by rw [State.pendingCount_call, marks]; rfl
  obtain ⟨hb, hp, hc⟩ := u.drain_single (by rw [backlog]; exact List.nodup_singleton _)
    (fun r hr => by rw [backlog, List.mem_singleton] at hr; rw [hr, one]) (by rw [backlog]; exact room)
  refine ⟨by rw [hp, backlog]; rfl, hb, ?_⟩
  have none := hc (.call k)
  rw [backlog, if_pos (List.mem_singleton.mpr rfl), State.pendingCount_call] at none
  cases e : (u.drain.call k).marks.audio with
  | false => rfl
  | true => simp [Marks.count, e] at none

/-- Settles O22: the walk ends where R9 says, the call joins there as R26 and R27 say, and with nothing to offer its
treatment begins. -/
theorem cArriveFollowsTheChain : Obligations.CArriveFollowsTheChain := by
  intro tag callerTag cls q s hs hq
  refine ⟨fun k path accepting free lowest walks none => ?_, fun k path last free walks => ?_, fun full => ?_⟩
  · obtain ⟨w, walk, walked, queues⟩ := walks.walk
    have queue := walks.accepting_kept queues
    let b := w.withArrival k callerTag (min cls.toNat 3)
    have fresh : b.call k = .arrived (s.call k).gen callerTag (min cls.toNat 3) s.now := by
      simp [b, State.withArrival, walked.call, walked.now]
    have noneThere : w.NoOffer accepting := none.walked walked
    have waits : b.Waits (w.arrive k accepting callerTag (min cls.toNat 3)) k accepting :=
      State.NoOffer.waits (b := b) noneThere k
    rw [hs.cArrive_accepted hq tag callerTag cls ((s.freeSlot_eq_some k).mpr ⟨free, lowest⟩) walk]
    generalize w.arrive k accepting callerTag (min cls.toNat 3) = u at waits
    have call := waits.call
    have entry : (if (b.queue accepting).params.carryWait then
        (Call.arrived (s.call k).gen callerTag (min cls.toNat 3) s.now).arrival else b.now) = s.now := by
      rw [show b.now = s.now from walked.now]
      exact ite_self _
    rw [State.joinedCall, fresh, entry, show b.joinSeq = s.joinSeq from walked.joinSeq] at call
    have state : (u.call k).state = .QUEUED := by rw [call]
    have handle : u.handle k = s.handle k := by rw [State.handle, call]; rfl
    obtain ⟨t, ht, closes, replies⟩ := u.closes (clampClass (decide (3 < cls.toNat)))
      (clampReason (decide (3 < cls.toNat))) [(u.handle k).word, word accepting.val, word (u.call k).state.code] 0x20
      tag (by rw [waits.rest]; exact walked.port ▸ hs.2)
    have channel : (t.call k).channel = (u.call k).channel := (closes.call_same k).channel
    obtain ⟨d, treated, audio, onChannel, next, player⟩ := waits.treated
    have noPlayer : (b.call k).poolPlayer = Option.none := by rw [fresh]; rfl
    refine ⟨t, congrArg _ ht, ?_, ⟨d, ?_, ?_⟩, ?_, fun heard => ?_, fun empty silent => ?_, fun empty heard room => ?_,
      ?_,
      ?_, ?_, fun r hr => ?_, fun j hj => ?_, ?_, fun a => ?_, ?_⟩
    · rw [handle, state] at replies; exact replies
    · exact treated.congr (by rw [← queue]; rfl) walked.store walked.now fun p => by rw [← walked.pool]; rfl
    · refine Call.SameButNotices.trans ?_ (closes.call_same k)
      rw [← audio, ← onChannel, ← next, ← player noPlayer]
      exact Call.sameButNotices_of call
    · refine State.PoolTaken.closed ((waits.players noPlayer).congr (by rw [← queue]; rfl) walked.store ?_ fun p => ?_)
        closes
      · rw [State.handle, fresh]; rfl
      · rw [if_neg nofun, ← walked.pool]; rfl
    · obtain ⟨marks, listed⟩ := waits.heard (channel ▸ heard)
      refine (waits.reports.audioReported (by decide) closes ?_ ?_ listed marks).congr walked.notices.symm
        walked.port.symm
      · rw [waits.rest]; rfl
      · rw [waits.rest]
    · have quiet : u.notices = s.notices := (waits.unmarked (channel ▸ silent)).trans walked.notices
      have drained : u.drain = u := u.drain_empty (by rw [quiet, empty])
      exact ⟨by rw [closes.notices, drained, quiet], by rw [closes.bus, drained, waits.rest]; exact walked.bus⟩
    · obtain ⟨marks, single⟩ := waits.marked (channel ▸ heard)
      have space : u.ringRoom = s.ringRoom := by rw [waits.rest]; exact walked.ringRoom
      have nothing : b.notices.backlog = [] := (congrArg (·.backlog) walked.notices).trans empty
      rw [nothing, if_neg List.not_mem_nil] at single
      obtain ⟨posted, gone, audio⟩ := u.drain_audio k single (by rw [marks, fresh]; rfl) (space ▸ room)
      refine ⟨?_, by rw [closes.notices, gone], by rw [closes.calls, audio]⟩
      rw [closes.notices, posted, waits.rest, ← walked.notices]
      rfl
    · rw [closes.joinSeq, waits.rest, ← walked.joinSeq]; rfl
    · rw [closes.queue, waits.queue, ← queue]; rfl
    · rw [closes.queue, ← queue]; exact waits.waiting
    · rw [closes.queue, waits.otherQueues r hr, ← State.passed_none, ← queues]; rfl
    · refine closes.call_of ((waits.others j hj).trans ?_)
      rw [← walked.call]
      exact (State.call_setCall _ _ _ _).trans (if_neg (Ne.symm hj))
    · rw [closes.readyList, waits.rest]; exact walked.readyList
    · exact closes.agent_of (by rw [waits.rest]; exact walked.agent a)
    · exact walked.sameLibrary.trans ((State.sameLibrary_of_rest rfl).trans (waits.sameLibrary.trans closes.library))
  · obtain ⟨w, walk, walked, queues⟩ := walks.walk
    obtain ⟨slot, hslot⟩ := Option.ne_none_iff_exists'.mp (mt s.freeSlot_eq_none.mp fun none => none k free)
    rw [hs.cArrive_diverted hq tag callerTag cls hslot walk, walked.replying hs]
    exact ⟨_, rfl, rfl, fun r => (queues r).trans (s.passed_none _ r)⟩
  · exact hs.cArrive_full hq tag callerTag cls ((s.freeSlot_eq_none).mpr full)

end Sys2Proof.Machine
end

section
/-! PROOFS. A call settled in the queue it joins: offered by the sweep, or treated (R29, R35, R36, R39). -/

namespace Sys2Proof.Machine

/-! ### A call that has joined and settled -/

/-- Call `k` has joined queue `q` and settled there between two states: offered by the sweep, or treated (R26, R27, R29,
R35, R36). -/
structure State.Settles (b m : State) (k : CallId) (q : QueueId) : Prop where
  rest : m = { b with
    queues := m.queues, joinSeq := min (b.joinSeq + 1) 4294967295, calls := m.calls, readyList := m.readyList
    agents := m.agents, treatment := { b.treatment with pool := m.treatment.pool }
    notices := { b.notices with backlog := m.notices.backlog } }
  queue : m.queue q = { (b.queue q).enteredOnce with waiting := (m.queue q).waiting }
  otherQueues : ∀ r, r ≠ q → m.queue r = b.queue r
  call : m.call k =
    { b.joinedCall k q with
      state := (m.call k).state, agent := (m.call k).agent, savedReadySince := (m.call k).savedReadySince
      offerPosted := (m.call k).offerPosted, offerDeadline := (m.call k).offerDeadline, audio := (m.call k).audio
      channel := (m.call k).channel, poolPlayer := (m.call k).poolPlayer
      nextAnnouncement := (m.call k).nextAnnouncement, marks := (m.call k).marks }
  state : (m.call k).state = .QUEUED ∨ (m.call k).state = .OFFERED
  untreated : (m.call k).state = .OFFERED → (m.call k).audio = (b.call k).audio ∧
    (m.call k).channel = (b.call k).channel ∧ (m.call k).poolPlayer = (b.call k).poolPlayer ∧
    (m.call k).nextAnnouncement = (b.call k).nextAnnouncement
  audio : (b.call k).marks.audio = true → (m.call k).marks.audio = true
  unready : ∀ a, a ∉ b.readyList → m.agent a = b.agent a ∧ a ∉ m.readyList
  reports : b.Reports m 1025

section
variable {b : State} {k : CallId} {q : QueueId} (ready : b.readyList.Nodup) (list : (b.queue q).waiting.Nodup)
  (outside : k ∉ (b.queue q).waiting)
include ready list outside

/-- A call that joins settles. -/
theorem State.settles : b.Settles ((b.join k q).settleJoin k q) k q := by
  have ready' : (b.join k q).readyList.Nodup := by rw [State.join_rest]; exact ready
  have list' : ((b.join k q).queue q).waiting.Nodup :=
    (b.join_waiting k q).nodup_iff.mpr (List.nodup_cons.mpr ⟨outside, list⟩)
  have joined : (b.join k q).call k = b.joinedCall k q := by rw [State.join_call, if_pos rfl]
  obtain ⟨agents, run, -⟩ := (b.join k q).sweep_offers q
  unfold State.settleJoin
  dsimp only
  generalize (b.join k q).sweep q = x at run
  have queue : x.queue q = { (b.queue q).enteredOnce with waiting := (x.queue q).waiting } := by
    rw [run.queue_rest, State.join_queue_self]
  have otherQueues : ∀ r, r ≠ q → x.queue r = b.queue r := fun r hr => by
    rw [run.queue_other hr, State.join_queue_other _ _ _ hr]
  have unready : ∀ a, a ∉ b.readyList → x.agent a = b.agent a ∧ a ∉ x.readyList := fun a ha => by
    have := run.agent_outside ready' (a := a) (by rw [State.join_rest]; exact ha)
    rwa [State.join_agent] at this
  have rest : x = { b with
      queues := x.queues, joinSeq := min (b.joinSeq + 1) 4294967295, calls := x.calls, readyList := x.readyList
      agents := x.agents, notices := { b.notices with backlog := x.notices.backlog } } := by
    have := run.rest
    rw [State.join_rest] at this
    exact this
  have reports : b.Reports x 1024 :=
    ((b.join_reports k q).trans run.reports).mono (by rw [Nat.zero_add]; exact run.agents_length ready')
  rcases run.call_cases list' ready' k with same | ⟨a, since, offered⟩
  · rw [joined] at same
    rw [if_pos (show (x.call k).state = .QUEUED by rw [same]; rfl)]
    have only : x.OnlyTreatment (x.beginTreatment k) k := x.beginTreatment_only k
    have begins := x.beginTreatment_begins k q (by rw [same]; rfl)
    generalize x.beginTreatment k = m at only begins
    have state : (m.call k).state = .QUEUED := by rw [only.state, same]; rfl
    refine ⟨?_, by rw [only.queue]; exact queue, fun r hr => by rw [only.queue, otherQueues r hr], ?_, .inl state,
      fun offered => ?_, fun marked => ?_, fun a ha => ?_, reports.trans begins.reports⟩
    · rw [only.rest, rest]
    · have call := only.call
      rw [same] at call
      rw [call]
    · rw [state] at offered; cases offered
    · by_cases silent : (m.call k).channel = none
      · rw [(begins.unmarked silent).1, same]; exact marked
      · rw [(begins.marked silent).1]
    · rw [only.agent, only.readyList]; exact unready a ha
  · rw [joined] at offered
    have state : (x.call k).state = .OFFERED := by rw [offered]; rfl
    rw [if_neg (by rw [state]; decide)]
    refine ⟨?_, queue, otherQueues, ?_, .inr state, fun _ => ?_, fun marked => ?_, unready, reports.mono (by decide)⟩
    · rw [rest]
    · rw [offered]; rfl
    · rw [offered]; exact ⟨rfl, rfl, rfl, rfl⟩
    · rw [offered]; exact marked

end

end Sys2Proof.Machine
end

section
/-! PROOFS. The parts of a move: the call that leaves its queue or its connection, and the wrap that ends at once
(R35, R36, R93, R95, R99 to R102). -/

namespace Sys2Proof.Machine

/-! ### The end of a treatment -/

theorem State.releasePlayer_reports (s : State) (k : CallId) : s.Reports (s.releasePlayer k) 0 := by
  unfold State.releasePlayer
  split
  · exact (s.setPool_reports _ _).trans (State.setCall_reports _ k { s.call k with poolPlayer := none } rfl)
  · exact .of_same (fun _ => rfl) rfl

/-- A call as the end of its treatment leaves it (R35, R39). -/
def Call.untreated (c : Call) : Call :=
  { c with
    audio := .SILENT, channel := none, poolPlayer := none, nextAnnouncement := none
    marks := { c.marks with audio := c.marks.audio || c.channel.isSome } }

section
variable (s : State) (k : CallId)

theorem State.endTreatment_call : (s.endTreatment k).call k = (s.call k).untreated := by
  have released : (s.releasePlayer k).call k = { s.call k with poolPlayer := none } := by
    rw [State.releasePlayer_call, if_pos rfl]
  unfold State.endTreatment Call.untreated
  dsimp only
  split
  case isTrue h => simp [State.markCall_call, released, h, Marks.set]
  case isFalse h => simp [released, h]

theorem State.endTreatment_pool (p : PoolId) :
    (s.endTreatment k).pool p = if (s.call k).poolPlayer = some p then .idle else s.pool p := by
  have released := s.releasePlayer_pool k p
  unfold State.endTreatment
  dsimp only
  split
  · rw [State.markCall_eq]; exact released
  · exact released

theorem State.endTreatment_reports : s.Reports (s.endTreatment k) 1 := by
  have quiet := (s.releasePlayer_reports k).trans ((s.releasePlayer k).setAudio_reports k .SILENT none none)
  unfold State.endTreatment
  dsimp only
  split
  · exact quiet.trans (State.markCall_reports _ k .AUDIO (by decide))
  · exact quiet.mono (Nat.zero_le _)

end

/-! ### The call that moves -/

/-- The move count, held at 4, and the overflow fields of a call that moves (R35, R36). -/
def Call.moving (c : Call) : Call :=
  { c with moveCount := min (c.moveCount + 1) 4, overflowSpent := false, overflowDue := false }

/-- Call `k` has left its queue or its connection between two states and is ready to join another: its record is `c`, the
queues are `queues`, the player `freed` is IDLE, and no other call and no agent has changed (R35, R36). -/
structure State.Departs (s b : State) (k : CallId) (c : Call) (queues : QueueId → Queue) (freed : Option PoolId) :
    Prop where
  rest : b = { s with
    queues := b.queues, calls := b.calls, treatment := { s.treatment with pool := b.treatment.pool }
    notices := { s.notices with backlog := b.notices.backlog } }
  call : b.call k = c
  others : ∀ j, j ≠ k → b.call j = s.call j
  queue : ∀ r, b.queue r = queues r
  pool : ∀ p, b.pool p = if freed = some p then .idle else s.pool p
  reports : s.Reports b 1

/-- The queues once call `k` has left queue `old` and has been counted out (R35). -/
def State.movedOutOf (s : State) (old : QueueId) (k : CallId) (x : QueueId) : Queue :=
  if x = old then
    { s.queue x with
      counters := { (s.queue x).counters with movedOut := min ((s.queue x).counters.movedOut + 1) 4294967295 }
      waiting := (s.queue x).waiting.erase k }
  else s.queue x

/-- A QUEUED call that departs from its queue (R35). -/
theorem State.departQueue_departs (s : State) (k : CallId) :
    s.Departs ((s.departQueue k false).countMove k) k (s.call k).untreated.moving
      (s.movedOutOf (s.call k).queue k) (s.call k).poolPlayer := by
  have only := s.endTreatment_only k
  have call := s.endTreatment_call k
  have pool := s.endTreatment_pool k
  have reports := s.endTreatment_reports k
  unfold State.countMove State.departQueue
  dsimp only
  generalize s.endTreatment k = e at only call pool reports
  have setMoved : ∀ d : State, (d.call k) = (s.call k).untreated → d.setCall k
      { d.call k with moveCount := min ((d.call k).moveCount + 1) 4, overflowSpent := false, overflowDue := false } =
        d.setCall k (s.call k).untreated.moving := fun d h => by rw [h]; rfl
  rw [setMoved _ (by simpa [State.leaveList, State.count] using call)]
  refine ⟨?_, ?_, fun j hj => ?_, fun r => ?_, fun p => ?_, ?_⟩
  · rw [only.rest]; rfl
  · simp
  · simpa [State.leaveList, State.count, Ne.symm hj] using only.others j hj
  · have queue : ∀ x, e.queue x = s.queue x := only.queue
    unfold State.movedOutOf
    by_cases hr : r = (s.call k).queue
    · subst hr
      simp [State.leaveList, State.count, QueueCounters.addMovedOut, queue, satAdd, Config.maxU32]
    · simp [State.leaveList, State.count, queue, hr, Ne.symm hr]
  · exact pool p
  · let d := (e.leaveList (s.call k).queue k).count (s.call k).queue (·.addMovedOut false)
    have listed : e.Reports d 0 := .of_same (fun r => by cases r <;> rfl) rfl
    exact (reports.trans listed).trans (d.setCall_reports k _ (by rw [show d.call k = e.call k from rfl, call]; rfl))

/-- A CONNECTED call that is transferred (R36). -/
def Call.disconnected (c : Call) : Call :=
  { c with
    agent := none, talkStart := none, savedReadySince := none, offerDeadline := none, offerPosted := false
    audio := .SILENT, channel := none }

theorem State.disconnect_departs (s : State) (k : CallId) :
    s.Departs ((s.setCall k (s.call k).disconnected).countMove k) k (s.call k).disconnected.moving s.queue none := by
  have twice : (s.setCall k (s.call k).disconnected).countMove k = s.setCall k (s.call k).disconnected.moving := by
    simp [State.countMove, State.setCall, State.call, Call.moving]
  rw [twice]
  refine ⟨rfl, by simp, fun j hj => by simp [Ne.symm hj], fun _ => rfl, fun p => ?_,
    (s.setCall_reports k (s.call k).disconnected.moving rfl).mono (Nat.zero_le _)⟩
  rw [if_neg nofun]
  rfl

/-! ### The wrap that ends at once -/

/-- A pending change has been applied to agent `a` at the end of its wrap, with its AGENT mark: its record is `g` and
marked, and beyond it at most one call has been offered (R101, R102). -/
structure State.Applies (t u : State) (a : AgentId) (g : Agent) : Prop where
  rest : u = { t with
    queues := u.queues, calls := u.calls, readyList := u.readyList, agents := u.agents
    notices := { t.notices with backlog := u.notices.backlog } }
  agent : u.agent a = { g with mark := true }
  queue : ∀ x, u.queue x = { t.queue x with waiting := (u.queue x).waiting }
  calls : ∀ j, u.call j = t.call j ∨ ∃ b since, u.call j = (t.call j).offeredTo b since
  listed : RecordRef.agent a ∈ u.notices.backlog
  reports : t.Reports u 2

/-- AWAY and LOGGED_OUT: the record is written and marked (R101, R102). -/
theorem State.applies_mark (t : State) (a : AgentId) (g : Agent) (h : g.mark = (t.agent a).mark) :
    t.Applies ((t.setAgent a g).markAgent a) a g where
  rest := by rw [State.markAgent_eq]; rfl
  agent := by rw [State.markAgent_agent, if_pos rfl, State.agent_setAgent, if_pos rfl]
  queue x := by rw [State.markAgent_eq]; rfl
  calls j := .inl (by rw [State.markAgent_eq]; rfl)
  listed := State.mem_markAgent_backlog _ a
  reports := ((t.setAgent_reports a g h).trans (State.markAgent_reports _ a)).mono (by decide)

/-- An agent as READY takes it at part time `now` (R51). -/
def Agent.readied (g : Agent) (now : Nat) : Agent :=
  { g with state := .READY, readySince := now, awayReason := 0, stateEntry := now }

/-- READY: the agent is marked and joins the ready list, and a call is selected for it or none (R71, R101, R102). -/
theorem State.applies_ready (t : State) (a : AgentId) :
    ∃ g, t.Applies ((t.markAgent a).enterReady a t.now) a g ∧
      ((g = (t.agent a).readied t.now ∧ a ∈ ((t.markAgent a).enterReady a t.now).readyList) ∨
        ∃ h, g = ((t.agent a).readied t.now).offeredCall h t.now) := by
  let r := ((t.markAgent a).setAgent a (((t.markAgent a).agent a).readied t.now)).joinReady a
  have marked : (t.markAgent a).agent a = { t.agent a with mark := true } := by rw [State.markAgent_agent, if_pos rfl]
  have entered : (t.markAgent a).enterReady a t.now = r.select a := by
    unfold State.enterReady
    dsimp only
    rw [show (t.markAgent a).now = t.now from (congrArg State.now (t.markAgent_eq a) :)]
    rfl
  have agent : r.agent a = { (t.agent a).readied t.now with mark := true } := by
    refine (State.agent_setAgent _ a a _).trans ?_
    rw [if_pos rfl, marked]
    rfl
  have now : r.now = t.now := (congrArg State.now (t.markAgent_eq a) :)
  have ready : a ∈ r.readyList := (insertWhere_perm _ _ _).mem_iff.mpr List.mem_cons_self
  have rest : r = { t with
      readyList := r.readyList, agents := r.agents, notices := { t.notices with backlog := r.notices.backlog } } := by
    simp only [r]
    rw [State.markAgent_eq]
    rfl
  have queue : ∀ x, r.queue x = t.queue x := fun x => by rw [rest]; rfl
  have call : ∀ j, r.call j = t.call j := fun j => by rw [rest]; rfl
  have listed : RecordRef.agent a ∈ r.notices.backlog := State.mem_markAgent_backlog t a
  have reports : t.Reports r 1 := by
    let v := (t.markAgent a).setAgent a (((t.markAgent a).agent a).readied t.now)
    have joins : v.Reports r 0 := .of_same (fun x => by cases x <;> rfl) rfl
    exact ((t.markAgent_reports a).trans
      ((t.markAgent a).setAgent_reports a (((t.markAgent a).agent a).readied t.now) rfl)).trans joins
  rw [entered]
  rcases r.select_cases a with same | ⟨q, k, -, -, -, offer⟩
  · rw [same]
    exact ⟨_, ⟨by rw [rest], agent, fun x => by rw [queue], fun j => .inl (call j), listed, reports.mono (by decide)⟩,
      .inl ⟨rfl, ready⟩⟩
  · rw [offer]
    refine ⟨_, ⟨?_, ?_, fun x => ?_, fun j => ?_, ?_, reports.trans (r.offer_reports q k a)⟩, .inr ⟨r.handle k, rfl⟩⟩
    · rw [State.offer_eq, rest]
    · rw [State.offer_agent, if_pos rfl, agent, now]; rfl
    · rw [State.offer_queue]
      split
      · subst_vars; rw [queue]
      · rw [queue]
    · rw [State.offer_call]
      split
      · subst_vars; exact .inr ⟨a, _, by rw [call]⟩
      · exact .inl (call j)
    · exact (r.offer_reports q k a).mem listed

end Sys2Proof.Machine
end

section
/-! PROOFS. The wrap that ends within the request that began it (R95, R99 to R102, R116). -/

namespace Sys2Proof.Machine

/-- Agent `a`'s wrap has ended with its AGENT mark between two states (R99 to R102). -/
structure State.WrapDone (n u : State) (a : AgentId) : Prop where
  rest : u = { n with
    queues := u.queues, calls := u.calls, readyList := u.readyList, agents := u.agents
    notices := { n.notices with backlog := u.notices.backlog } }
  ends : n.WrapEnds u a (n.agent a).wrapQueue (n.agent a).wrapTalk (n.now - (n.agent a).wrapStart) (n.agent a).pending
  calls : ∀ j, u.call j = n.call j ∨ ∃ b since, u.call j = (n.call j).offeredTo b since
  marked : (u.agent a).mark = true
  listed : RecordRef.agent a ∈ u.notices.backlog
  reports : n.Reports u 2

/-- The record of an agent at the end of its wrap, before its pending is applied (R49, R99). -/
def Agent.wrapped (g : Agent) (now : Nat) : Agent :=
  { g.leaveWrap with
    pending := .NONE, stateEntry := now, counters := g.counters.addWrap g.wrapTalk (now - g.wrapStart) }

/-- What a record looks like once the pending `pend` has been applied to it (R101). -/
inductive Agent.Resumes (g : Agent) (now : Nat) (listed : Prop) : PendingChange → Agent → Prop where
  | ready (h : listed) : g.Resumes now listed .NONE (g.readied now)
  | offered (h : Handle) : g.Resumes now listed .NONE ((g.readied now).offeredCall h now)
  | away (r : Fin 16) : g.Resumes now listed (.AWAY r) { g with state := .AWAY, awayReason := r }
  | logout : g.Resumes now listed .LOGOUT { g with state := .LOGGED_OUT }

section
variable {g₀ g : Agent} {now : Nat} {listed : Prop} {pend : PendingChange}
  (h : (g₀.wrapped now).Resumes now listed pend g)
include h

theorem Agent.Resumes.fields : g = { g₀.wrapped now with
    state := g.state, awayReason := g.awayReason, readySince := g.readySince, call := g.call } := by
  cases h <;> rfl

theorem Agent.Resumes.of_none (e : pend = .NONE) :
    g.readySince = now ∧ (g.state = .READY ∧ listed ∨ g.state = .OFFERED) := by
  cases h with
  | ready l => exact ⟨rfl, .inl ⟨rfl, l⟩⟩
  | offered => exact ⟨rfl, .inr rfl⟩
  | away => cases e
  | logout => cases e

theorem Agent.Resumes.of_away {r : Fin 16} (e : pend = .AWAY r) : g.state = .AWAY ∧ g.awayReason = r := by
  cases e
  cases h
  exact ⟨rfl, rfl⟩

theorem Agent.Resumes.of_logout (e : pend = .LOGOUT) : g.state = .LOGGED_OUT := by
  cases e
  cases h
  rfl

end

/-- The hand-over of agent `a`'s wrap (R99, R100, R116). -/
def State.handedOver (n : State) (a : AgentId) : State :=
  (n.countWrap (n.agent a).wrapQueue (n.agent a).wrapTalk (n.now - (n.agent a).wrapStart)).setAgent a
    ((n.agent a).wrapped n.now)

/-- A wrap end is the hand-over and then the pending (R101). -/
theorem State.endWrap_applies (n : State) (a : AgentId) : ∃ g, (n.handedOver a).Applies (n.endWrap a true) a g ∧
    ((n.agent a).wrapped n.now).Resumes n.now (a ∈ (n.endWrap a true).readyList) (n.agent a).pending g := by
  obtain ⟨t, ht, ends⟩ := n.endWrap_cases a true
  have agent : t.agent a = (n.agent a).wrapped n.now := by rw [ht]; simp [Agent.wrapped]
  have handed : t = n.handedOver a := ht
  have now : t.now = n.now := by rw [handed, State.handedOver, State.countWrap_eq]; rfl
  rw [← handed, ends]
  cases (n.agent a).pending with
  | NONE =>
    obtain ⟨g, applies, h⟩ := t.applies_ready a
    rw [agent, now] at h
    rw [now] at applies
    rcases h with ⟨rfl, listed⟩ | ⟨call, rfl⟩
    · exact ⟨_, applies, .ready listed⟩
    · exact ⟨_, applies, .offered call⟩
  | AWAY r => exact ⟨_, t.applies_mark a _ rfl, by rw [agent]; exact .away r⟩
  | LOGOUT => exact ⟨_, t.applies_mark a _ rfl, by rw [agent]; exact .logout⟩

theorem State.handedOver_queue (n : State) (a : AgentId) (x : QueueId) : (n.handedOver a).queue x =
    if (n.agent a).wrapQueue = x then
      { n.queue x with
        counters := (n.queue x).counters.addHandled (n.agent a).wrapTalk (n.now - (n.agent a).wrapStart)
        aht := ahtUpdate (n.queue x).aht (n.agent a).wrapTalk (n.now - (n.agent a).wrapStart) }
    else n.queue x := by
  unfold State.handedOver
  rw [State.countWrap_eq, State.queue_setAgent]
  by_cases h : (n.agent a).wrapQueue = x
  · subst h; simp [State.queue]
  · have : (n.agent a).wrapQueue.val ≠ x.val := fun e => h (Fin.ext e)
    simp [State.queue, this, h]

theorem State.handedOver_rest (n : State) (a : AgentId) :
    n.handedOver a = { n with queues := (n.handedOver a).queues, agents := (n.handedOver a).agents } := by
  unfold State.handedOver
  rw [State.countWrap_eq]
  rfl

theorem State.handedOver_reports (n : State) (a : AgentId) : n.Reports (n.handedOver a) 0 := by
  have counted : n.Reports (n.countWrap (n.agent a).wrapQueue (n.agent a).wrapTalk (n.now - (n.agent a).wrapStart)) 0 :=
    .of_same (fun r => by rw [State.countWrap_eq]; cases r <;> rfl) (by rw [State.countWrap_eq])
  exact counted.trans (State.setAgent_reports _ a ((n.agent a).wrapped n.now) (by rw [State.countWrap_eq]; rfl))

/-- The end of a wrap whose AGENT mark is set (R99 to R102, R116). -/
theorem State.endWrap_done (n : State) (a : AgentId) : n.WrapDone (n.endWrap a true) a := by
  obtain ⟨g, applies, resumes⟩ := n.endWrap_applies a
  have agent := applies.agent
  generalize n.endWrap a true = u at applies agent resumes
  have queue := applies.queue
  simp only [State.handedOver_queue] at queue
  have call : ∀ j, (n.handedOver a).call j = n.call j := fun j => by rw [State.handedOver_rest]; rfl
  refine ⟨?_, ?_, ?_, by rw [agent], applies.listed, (n.handedOver_reports a).trans applies.reports⟩
  · have rest := applies.rest
    rw [State.handedOver_rest] at rest
    exact rest
  · have own := queue (n.agent a).wrapQueue
    rw [if_pos rfl] at own
    have fields : u.agent a = { (n.agent a).wrapped n.now with
        state := g.state, awayReason := g.awayReason, readySince := g.readySince, call := g.call, mark := true } := by
      rw [agent]
      conv_lhs => rw [resumes.fields]
    refine ⟨by rw [fields]; rfl, by rw [own]; rfl, ?_, by rw [own]; exact ⟨rfl, rfl⟩, fun r hr => ?_,
      by rw [fields]; exact ⟨rfl, rfl, rfl, rfl, rfl, rfl⟩, by rw [fields]; exact ⟨rfl, rfl⟩, by rw [fields]; rfl,
      ?_, ?_, ?_⟩
    · rw [own, max_comm]
      exact Int.toNat_eq_max _
    · rw [queue r, if_neg (Ne.symm hr)]
      exact ⟨rfl, rfl⟩
    · intro e
      rw [agent]
      exact resumes.of_none e
    · intro r e
      rw [agent]
      exact resumes.of_away e
    · intro e
      rw [agent]
      exact resumes.of_logout e
  · intro j
    rw [← call j]
    exact applies.calls j

end Sys2Proof.Machine
end

section
/-! PROOFS. A call that moves, from the end of the walk to the end of its settlement (R35, R36). -/

namespace Sys2Proof.Machine

namespace State.Departs

variable {s b : State} {k : CallId} {c : Call} {queues : QueueId → Queue} {freed : Option PoolId}
  (h : s.Departs b k c queues freed)
include h

theorem agent (a : AgentId) : b.agent a = s.agent a := by rw [h.rest]; rfl
theorem now : b.now = s.now := by rw [h.rest]; rfl
theorem store : b.store = s.store := by rw [h.rest]
theorem joinSeq : b.joinSeq = s.joinSeq := by rw [h.rest]
theorem readyList : b.readyList = s.readyList := by rw [h.rest]

end State.Departs

/-- A player that is released is free besides those that were IDLE (R149). -/
theorem idle_or_freed {freed : Option PoolId} {p : PoolId} {r : PoolPlayer} :
    ((if freed = some p then PoolPlayer.idle else r).state = .IDLE) ↔ (r.state = .IDLE ∨ freed = some p) := by
  by_cases h : freed = some p
  · simp [h, PoolPlayer.idle]
  · simp [h]

/-- Call `k`, its record `c` once it has left its queue or its connection, has joined queue `q` between two states, in
which nothing can be offered, and waits there (R35, R36). -/
structure State.Awaits (s m : State) (k : CallId) (q : QueueId) (c : Call) (freed : Option PoolId) : Prop where
  state : (m.call k).state = .QUEUED
  agent : (m.call k).agent = c.agent
  savedReadySince : (m.call k).savedReadySince = c.savedReadySince
  treated : ∃ d : Call, s.Treated q (fun p => (s.pool p).state = .IDLE ∨ freed = some p) d ∧
    (m.call k).audio = d.audio ∧ (m.call k).channel = d.channel ∧ (m.call k).nextAnnouncement = d.nextAnnouncement ∧
    (c.poolPlayer = none → (m.call k).poolPlayer = d.poolPlayer)
  players : c.poolPlayer = none → s.PoolTaken m q k freed
  heard : (m.call k).channel ≠ none → (m.call k).marks.audio = true ∧ RecordRef.call k ∈ m.notices.backlog
  waiting : (m.queue q).waiting.Perm (k :: (s.queue q).waiting)
  others : ∀ j, j ≠ k → m.call j = s.call j
  readyList : m.readyList = s.readyList
  agents : ∀ a, m.agent a = s.agent a

/-- Call `k`, its record `c` and the queues `queues` once it has left its queue or its connection, has joined queue `q`
and settled there between two states (R35, R36). -/
structure State.Rejoins (s m : State) (k : CallId) (q : QueueId) (c : Call) (queues : QueueId → Queue)
    (freed : Option PoolId) : Prop where
  rest : m = { s with
    queues := m.queues, joinSeq := min (s.joinSeq + 1) 4294967295, calls := m.calls, readyList := m.readyList
    agents := m.agents, treatment := { s.treatment with pool := m.treatment.pool }
    notices := { s.notices with backlog := m.notices.backlog } }
  queue : m.queue q = { (s.queue q).enteredOnce with waiting := (m.queue q).waiting }
  otherQueues : ∀ r, r ≠ q → m.queue r = queues r
  call : m.call k =
    { c with
      state := (m.call k).state, queue := q, entry := if (s.queue q).params.carryWait then c.arrival else s.now
      joinSeq := s.joinSeq, agent := (m.call k).agent, savedReadySince := (m.call k).savedReadySince
      offerPosted := (m.call k).offerPosted, offerDeadline := (m.call k).offerDeadline, audio := (m.call k).audio
      channel := (m.call k).channel, poolPlayer := (m.call k).poolPlayer
      nextAnnouncement := (m.call k).nextAnnouncement, marks := (m.call k).marks }
  state : (m.call k).state = .QUEUED ∨ (m.call k).state = .OFFERED
  untreated : (m.call k).state = .OFFERED → (m.call k).audio = c.audio ∧ (m.call k).channel = c.channel ∧
    (m.call k).poolPlayer = c.poolPlayer ∧ (m.call k).nextAnnouncement = c.nextAnnouncement
  audio : c.marks.audio = true → (m.call k).marks.audio = true
  unready : ∀ a, a ∉ s.readyList → m.agent a = s.agent a ∧ a ∉ m.readyList
  reports : s.Reports m 1026
  waits : s.NoOffer q → s.Awaits m k q c freed

section
variable {s w b : State} {k : CallId} {q : QueueId} {c : Call} {queues : QueueId → Queue} {freed : Option PoolId}
  (walked : s.OnlyDiverted w) (departs : w.Departs b k c queues freed) (accepting : queues q = s.queue q)
  (gen : c.gen = (s.call k).gen)
include walked departs accepting gen

/-- A call that has departed and joins where nothing can be offered (R35, R36). -/
theorem State.Departs.awaits (none : s.NoOffer q) : s.Awaits ((b.join k q).settleJoin k q) k q c freed := by
  have queue : b.queue q = s.queue q := (departs.queue q).trans accepting
  have noneThere : b.NoOffer q := none.congr (by rw [queue]) (by rw [queue])
    (departs.readyList.trans walked.readyList) fun a _ => (departs.agent a).trans (walked.agent a)
  have waits := noneThere.waits k
  generalize (b.join k q).settleJoin k q = m at waits
  have call := waits.call
  obtain ⟨d, treated, audio, channel, next, player⟩ := waits.treated
  have players := waits.players
  rw [departs.call] at player players
  rw [State.joinedCall, departs.call] at call
  have pool : ∀ p, b.pool p = if freed = some p then .idle else s.pool p := fun p => by
    rw [departs.pool, walked.pool]
  refine ⟨by rw [call], by rw [call], by rw [call], ⟨d, ?_, audio, channel, next, player⟩, fun held => ?_, waits.heard,
    ?_, fun j hj => ?_, ?_, fun a => ?_⟩
  · refine treated.congr (by rw [queue]) (departs.store.trans walked.store) (departs.now.trans walked.now) fun p => ?_
    rw [pool, idle_or_freed]
  · refine (players held).congr (by rw [queue]) (departs.store.trans walked.store) ?_ fun p => ?_
    · rw [State.handle, departs.call, gen]; rfl
    · rw [pool, show State.reset.pool p = .idle from Vector.getElem_replicate _]
  · rw [← queue]; exact waits.waiting
  · rw [waits.others j hj, departs.others j hj, walked.call]
  · rw [waits.rest]; exact departs.readyList.trans walked.readyList
  · rw [show m.agent a = b.agent a by rw [waits.rest]; rfl, departs.agent, walked.agent]

/-- A call that has departed joins and settles (R35, R36). -/
theorem State.Departs.rejoins (ready : s.readyList.Nodup) (list : (s.queue q).waiting.Nodup)
    (outside : k ∉ (s.queue q).waiting) :
    s.Rejoins ((b.join k q).settleJoin k q) k q c queues freed := by
  have queue : b.queue q = s.queue q := (departs.queue q).trans accepting
  have readyList : b.readyList = s.readyList := departs.readyList.trans walked.readyList
  have agent : ∀ a, b.agent a = s.agent a := fun a => (departs.agent a).trans (walked.agent a)
  have settles : b.Settles ((b.join k q).settleJoin k q) k q :=
    State.settles (readyList ▸ ready) (queue ▸ list) (queue ▸ outside)
  have awaits := State.Departs.awaits walked departs accepting gen
  generalize (b.join k q).settleJoin k q = m at settles awaits
  have call := settles.call
  have untreated := settles.untreated
  have audio := settles.audio
  rw [departs.call] at untreated audio
  rw [State.joinedCall, departs.call, queue, departs.now, walked.now, departs.joinSeq, walked.joinSeq] at call
  refine ⟨?_, ?_, fun r hr => ?_, call, settles.state, untreated, audio, fun a ha => ?_, ?_, awaits⟩
  · rw [settles.rest, departs.rest, walked.rest]
  · rw [← queue]; exact settles.queue
  · rw [settles.otherQueues r hr, departs.queue]
  · rw [← agent]; exact settles.unready a (readyList ▸ ha)
  · have before : s.Reports w 0 :=
      .of_same (fun r => by cases r <;> rw [walked.rest] <;> rfl) (by rw [walked.notices])
    exact (before.trans departs.reports).trans settles.reports

end

end Sys2Proof.Machine
end

section
/-! PROOFS. The agent's part of a transfer: the wrap it enters, and the wrap that ends at once (R36, R93, R95). -/

namespace Sys2Proof.Machine

/-! ### What an offer leaves of a call -/

/-- An offer may have been made of a call (R75, R76). -/
def Call.MayBeOffered (c d : Call) : Prop := d = c ∨ ∃ a since, d = c.offeredTo a since

theorem Call.MayBeOffered.fields {c d : Call} (h : c.MayBeOffered d) : d =
    { c with
      state := d.state, agent := d.agent, savedReadySince := d.savedReadySince, offerPosted := d.offerPosted
      offerDeadline := d.offerDeadline, marks := d.marks } := by
  rcases h with rfl | ⟨a, since, rfl⟩ <;> rfl

theorem Call.MayBeOffered.audio {c d : Call} (h : c.MayBeOffered d) : d.marks.audio = c.marks.audio := by
  rcases h with rfl | ⟨a, since, rfl⟩ <;> rfl

theorem Call.MayBeOffered.state {c d : Call} (h : c.MayBeOffered d) : d.state = c.state ∨ d.state = .OFFERED := by
  rcases h with rfl | ⟨a, since, rfl⟩
  · exact .inl rfl
  · exact .inr rfl

/-! ### The wrap -/

/-- What the wrap of a transfer leaves besides its agent and the AHT: no call but one that may be offered, and none of
the counters of calls that come and go (R93, R95, R99 to R102). -/
structure State.Transfers (m u : State) : Prop where
  rest : u = { m with
    queues := u.queues, calls := u.calls, readyList := u.readyList, agents := u.agents
    notices := { m.notices with backlog := u.notices.backlog } }
  calls : ∀ j, (m.call j).MayBeOffered (u.call j)
  counters : ∀ x, (u.queue x).counters.entered = (m.queue x).counters.entered ∧
    (u.queue x).counters.movedOut = (m.queue x).counters.movedOut
  reports : m.Reports u 2

/-- An agent that enters WRAP for queue `q` at its parameters `p` (R91 to R94). -/
def Agent.wrapping (g : Agent) (q : QueueId) (p : QueueParams) (talk now : Nat) : Agent :=
  { g with
    state := .WRAP, call := none, stateEntry := now, wrapQueue := q, wrapTalk := talk, wrapStart := now
    wrapDeadline := ⟨min (now + p.wrapBase) Config.maxU32, decide (Config.maxU32 ≤ now)⟩
    wrapLimit := min (now + p.wrapBase + p.wrapExtensionMax) 4294967295 }

section
variable (m : State) (a : AgentId) (q : QueueId) (talk : Nat)

theorem State.enterWrap_eq : m.enterWrap a q talk =
    m.setAgent a ((m.agent a).wrapping q (m.queue q).params talk m.now) := rfl

theorem State.enterWrap_reports : m.Reports (m.enterWrap a q talk) 0 :=
  m.setAgent_reports a ((m.agent a).wrapping q (m.queue q).params talk m.now) rfl

/-- A wrap whose queue has a wrap base stands (R93). -/
theorem State.wrapTransfer_stands (h : (m.queue q).params.wrapBase ≠ 0) :
    m.wrapTransfer (some a) q talk = m.enterWrap a q talk := if_neg h

/-- A wrap whose queue has none ends at once (R95). -/
theorem State.wrapTransfer_ends (h : (m.queue q).params.wrapBase = 0) :
    m.wrapTransfer (some a) q talk = (m.enterWrap a q talk).endWrap a true := if_pos h

theorem State.wrapTransfer_transfers : m.Transfers (m.wrapTransfer (some a) q talk) := by
  by_cases h : (m.queue q).params.wrapBase = 0
  · rw [State.wrapTransfer_ends _ _ _ _ h]
    have done := (m.enterWrap a q talk).endWrap_done a
    refine ⟨?_, done.calls, fun x => ?_, ((m.enterWrap_reports a q talk).trans done.reports)⟩
    · rw [done.rest]; rfl
    · by_cases hx : x = ((m.enterWrap a q talk).agent a).wrapQueue
      · rw [hx, done.ends.queueCounters]
        exact ⟨rfl, rfl⟩
      · rw [(done.ends.otherQueues x hx).1]
        exact ⟨rfl, rfl⟩
  · rw [State.wrapTransfer_stands _ _ _ _ h]
    exact ⟨rfl, fun j => .inl rfl, fun x => ⟨rfl, rfl⟩, (m.enterWrap_reports a q talk).mono (by decide)⟩

end

/-- The close of the request does not touch what a wrap end leaves. -/
theorem State.WrapEnds.closed {s u t : State} {a : AgentId} {q : QueueId} {talk w : Nat} {pend : PendingChange}
    (h : s.WrapEnds u a q talk w pend) (closes : u.Closes t) : s.WrapEnds t a q talk w pend := by
  have agent : t.agent a = { u.agent a with mark := (t.agent a).mark } := closes.agent_same a
  refine ⟨?_, ?_, ?_, ?_, fun r hr => ?_, ?_, ?_, ?_, fun e => ?_, fun r e => ?_, fun e => ?_⟩
  · rw [agent]; exact h.agentCounters
  · rw [closes.queue]; exact h.queueCounters
  · rw [closes.queue]; exact h.aht
  · rw [closes.queue]; exact h.parameters
  · rw [closes.queue]; exact h.otherQueues r hr
  · rw [agent]; exact h.cleared
  · rw [agent]; exact h.kept
  · rw [agent]; exact h.entry
  · rw [agent, closes.readyList]; exact h.none e
  · rw [agent]; exact h.away r e
  · rw [agent]; exact h.logout e

/-- A wrap end counts from the agent's counters, the queues but for their lists, and T (R99 to R101, R116). -/
theorem State.WrapEnds.congr {s s' t : State} {a : AgentId} {q : QueueId} {talk w : Nat} {pend : PendingChange}
    (h : s.WrapEnds t a q talk w pend) (counters : (s.agent a).counters = (s'.agent a).counters)
    (kept : (s.agent a).station = (s'.agent a).station ∧ (s.agent a).skills = (s'.agent a).skills)
    (queue : ∀ x, s.queue x = { s'.queue x with waiting := (s.queue x).waiting }) (now : s.now = s'.now) :
    s'.WrapEnds t a q talk w pend := by
  have hc : ∀ x, (s.queue x).counters = (s'.queue x).counters := fun x => by rw [queue]
  have ha : ∀ x, (s.queue x).aht = (s'.queue x).aht := fun x => by rw [queue]
  have hp : ∀ x, (s.queue x).params = (s'.queue x).params := fun x => by rw [queue]
  have hm : ∀ x, (s.queue x).mode = (s'.queue x).mode := fun x => by rw [queue]
  obtain ⟨agentCounters, queueCounters, aht, parameters, others, cleared, same, entry, none, away, logout⟩ := h
  rw [counters] at agentCounters
  rw [hc] at queueCounters
  rw [ha] at aht
  rw [hp, hm] at parameters
  rw [kept.1, kept.2] at same
  rw [now] at entry none
  exact ⟨agentCounters, queueCounters, aht, parameters, fun r hr => by rw [← hc, ← ha]; exact others r hr, cleared,
    same, entry, none, away, logout⟩

/-- A wrap that ends at once has taken no wrap seconds (R95, R99). -/
theorem State.WrapDone.wrapEnds {m u : State} {a : AgentId} {q : QueueId} {talk : Nat}
    (h : (m.enterWrap a q talk).WrapDone u a) : m.WrapEnds u a q talk 0 (m.agent a).pending := by
  have agent : (m.enterWrap a q talk).agent a = (m.agent a).wrapping q (m.queue q).params talk m.now := by
    rw [State.enterWrap_eq, State.agent_setAgent, if_pos rfl]
  have none : (m.enterWrap a q talk).now - ((m.agent a).wrapping q (m.queue q).params talk m.now).wrapStart = 0 :=
    Nat.sub_self m.now
  have ends := h.ends
  rw [agent, none] at ends
  exact ends.congr (by rw [agent]; rfl) (by rw [agent]; exact ⟨rfl, rfl⟩) (fun _ => rfl) rfl

end Sys2Proof.Machine
end

section
/-! PROOFS. C_MOVE (R34 to R36). -/

namespace Sys2Proof.Machine

/-- The queue a walk of C_MOVE counts as visited from its start: the own queue of a QUEUED call (R10). -/
def Call.ownQueue (c : Call) : Option QueueId := if c.state = .QUEUED then some c.queue else none

theorem Call.ownQueue_toList (c : Call) : (if c.state = .QUEUED then [c.queue] else []) = c.ownQueue.toList := by
  unfold Call.ownQueue
  split <;> rfl

section
variable {s : State} {q : QueueId} {k : CallId} (hs : s.Taking) (live : (s.call k).state ≠ .FREE) (tag : Tag)
include hs live

theorem State.Taking.cMove_offered (h : (s.call k).state = .OFFERED) :
    exec (.cMove tag (s.handle k).word (word q.val)) s = .next (s.replying .REFUSED .STATE 0x23 tag []) := by
  refine hs.answers rfl ?_
  simp only [State.cMoveBody, s.live_handle k live, idOf_word (show 64 ≤ 4294967296 by decide), h, if_true]
  rfl

theorem State.Taking.cMove_own (h : (s.call k).state = .QUEUED) (own : q = (s.call k).queue) :
    exec (.cMove tag (s.handle k).word (word q.val)) s = .next (s.replying .REFUSED .BAD_VALUE 0x23 tag []) := by
  refine hs.answers rfl ?_
  simp only [State.cMoveBody, s.live_handle k live, idOf_word (show 64 ≤ 4294967296 by decide), h, own]
  rfl

variable (known : (s.call k).state ≠ .OFFERED) (foreign : (s.call k).state = .QUEUED → q ≠ (s.call k).queue)
include known foreign

theorem State.Taking.cMove_undefined (h : (s.queue q).defined = false) :
    exec (.cMove tag (s.handle k).word (word q.val)) s = .next (s.replying .REFUSED .BAD_QUEUE 0x23 tag []) := by
  refine hs.answers rfl ?_
  have other : ¬ ((s.call k).state = .QUEUED ∧ q = (s.call k).queue) := fun e => foreign e.1 e.2
  simp only [State.cMoveBody, s.live_handle k live, idOf_word (show 64 ≤ 4294967296 by decide), known,
    other, h, if_false, Bool.not_false, if_true]
  rfl

variable (hq : (s.queue q).defined = true)
include hq

/-- A C_MOVE whose walk ends in an accepting queue (R34). -/
theorem State.Taking.cMove_accepted {t : State} {accepting : QueueId}
    (walk : s.walk (s.call k).ownQueue.toList q = (t, some accepting)) :
    exec (.cMove tag (s.handle k).word (word q.val)) s =
      .next ((t.moveTo k accepting).drain.toReply (Answer.reply ⟨.DONE, .NONE, 0,
        [word accepting.val, word ((t.moveCall k accepting).call k).state.code], []⟩ 0x23 tag)) := by
  have other : ¬ ((s.call k).state = .QUEUED ∧ q = (s.call k).queue) := fun e => foreign e.1 e.2
  refine (hs.takes _ rfl).trans ?_
  simp only [State.cMoveBody, s.live_handle k live, idOf_word (show 64 ≤ 4294967296 by decide), known, other, hq,
    if_false, Bool.not_true, Bool.false_eq_true, (s.call k).ownQueue_toList, walk]
  rfl

/-- A C_MOVE whose walk ends without one (R34). -/
theorem State.Taking.cMove_diverted {t : State} (walk : s.walk (s.call k).ownQueue.toList q = (t, none)) :
    exec (.cMove tag (s.handle k).word (word q.val)) s =
      .next (t.toReply (Answer.reply ⟨.REFUSED, .DIVERTED, 0, [], []⟩ 0x23 tag)) := by
  have other : ¬ ((s.call k).state = .QUEUED ∧ q = (s.call k).queue) := fun e => foreign e.1 e.2
  refine (hs.takes _ rfl).trans ?_
  simp only [State.cMoveBody, s.live_handle k live, idOf_word (show 64 ≤ 4294967296 by decide), known, other, hq,
    if_false, Bool.not_true, Bool.false_eq_true, (s.call k).ownQueue_toList, walk]
  rfl

end

/-! ### A QUEUED call -/

section
variable {s w : State} {q accepting : QueueId} {k : CallId} (agree : s.RecordsAgree) (walked : s.OnlyDiverted w)
  (queue : w.queue accepting = s.queue accepting)
include agree walked queue

/-- The move of a QUEUED call (R35). -/
theorem State.OnlyDiverted.moves_queued (queued : (s.call k).state = .QUEUED)
    (foreign : accepting ≠ (s.call k).queue) :
    w.moveCall k accepting = w.moveTo k accepting ∧
    s.Rejoins (w.moveTo k accepting) k accepting (s.call k).untreated.moving
      (w.movedOutOf (s.call k).queue k) (s.call k).poolPlayer := by
  have departs := w.departQueue_departs k
  rw [walked.call] at departs
  have there : (w.call k).state = .QUEUED := walked.call k ▸ queued
  have moveTo : w.moveTo k accepting =
      (((w.departQueue k false).countMove k).join k accepting).settleJoin k accepting := if_pos there
  have moveCall : w.moveCall k accepting =
      (((w.departQueue k false).countMove k).join k accepting).settleJoin k accepting := if_pos there
  rw [moveTo, moveCall]
  exact ⟨rfl, State.Departs.rejoins walked departs ((if_neg foreign).trans queue) rfl agree.readyNodup
    (agree.listNodup accepting) fun h => foreign ((agree.listed accepting k).mp h).2.symm⟩

/-- The move of a CONNECTED call, its wrap aside (R36). -/
theorem State.OnlyDiverted.moves_connected {a : AgentId} {start : Nat} (connected : (s.call k).state = .CONNECTED)
    (agent : (s.call k).agent = some a) (talk : (s.call k).talkStart = some start) :
    w.moveTo k accepting = (w.moveCall k accepting).wrapTransfer (some a) (s.call k).queue (s.now - start) ∧
    s.Rejoins (w.moveCall k accepting) k accepting (s.call k).disconnected.moving w.queue none := by
  have departs := w.disconnect_departs k
  rw [walked.call] at departs
  have there : (w.call k).state ≠ .QUEUED := by rw [walked.call, connected]; decide
  have moveCall : w.moveCall k accepting =
      (((w.setCall k (w.call k).disconnected).countMove k).join k accepting).settleJoin k accepting := if_neg there
  have moveTo : w.moveTo k accepting =
      (w.moveCall k accepting).wrapTransfer (w.call k).agent (w.call k).queue (w.talkSeconds k) := by
    rw [show w.moveCall k accepting = w.requeue k accepting from if_neg there]
    exact if_neg there
  rw [moveTo, moveCall, State.talkSeconds, walked.call, walked.now, agent, talk]
  refine ⟨rfl, State.Departs.rejoins walked departs queue rfl agree.readyNodup (agree.listNodup accepting) fun h => ?_⟩
  rw [((agree.listed accepting k).mp h).1] at connected
  cases connected

end

/-- A CONNECTED call's agent is not in the ready list (R50, R76). -/
theorem State.RecordsAgree.not_ready_of_connected {s : State} (agree : s.RecordsAgree) {k : CallId} {a : AgentId}
    (connected : (s.call k).state = .CONNECTED) (agent : (s.call k).agent = some a) : a ∉ s.readyList := by
  obtain ⟨b, talking, paired, -⟩ := agree.connected k connected
  cases Option.some.inj (agent.symm.trans paired)
  rw [agree.ready, talking]
  decide

theorem State.Rejoins.sameLibrary {s m : State} {k : CallId} {q : QueueId} {c : Call} {queues : QueueId → Queue}
    {freed : Option PoolId} (h : s.Rejoins m k q c queues freed) : s.SameLibrary m :=
  State.sameLibrary_of_rest (by rw [h.rest])

theorem State.Transfers.sameLibrary {m u : State} (h : m.Transfers u) : m.SameLibrary u :=
  State.sameLibrary_of_rest (by rw [h.rest])

/-- A wrap end counts from the queues of any state of the same agent and T (R99 to R101, R116). -/
theorem State.WrapEnds.withQueues {s m u : State} {a : AgentId} {q : QueueId} {talk w : Nat} {pend : PendingChange}
    (h : m.WrapEnds u a q talk w pend) (v : Vector Queue 64) (agent : m.agent a = s.agent a) (now : m.now = s.now)
    (queue : ∀ x : QueueId, m.queue x = { v[x.val] with waiting := (m.queue x).waiting }) :
    ({ s with queues := v } : State).WrapEnds u a q talk w pend :=
  h.congr (by rw [agent]; rfl) (by rw [agent]; exact ⟨rfl, rfl⟩) queue now

/-- The wrap end of a transfer counts beside the call's move (R36, R99 to R101, R116). -/
theorem State.Rejoins.wrapEnds {s w m u : State} {k : CallId} {q : QueueId} {c : Call} {freed : Option PoolId}
    {path : List QueueId} {a : AgentId} {answering : QueueId} {talk : Nat} {pend : PendingChange}
    (h : s.Rejoins m k q c w.queue freed) (queues : ∀ x, w.queue x = s.passed none path x)
    (agent : m.agent a = s.agent a) (ends : m.WrapEnds u a answering talk 0 pend) :
    ({ s with
      queues := Vector.ofFn fun x =>
        if x = q then (s.queue x).enteredOnce else s.passed none path x } : State).WrapEnds u a
          answering talk 0 pend := by
  refine ends.withQueues _ agent (by rw [h.rest]; rfl) fun x => ?_
  rw [Vector.getElem_ofFn]
  by_cases hx : x = q
  · rw [if_pos hx, hx]
    exact h.queue
  · rw [if_neg hx, h.otherQueues x hx, queues]

/-- The wrap of a transfer touches no player (R36). -/
theorem State.PoolTaken.transferred {s m u : State} {q : QueueId} {k : CallId} {freed : Option PoolId}
    (h : s.PoolTaken m q k freed) (transfers : m.Transfers u) : s.PoolTaken u q k freed := by
  have pool : ∀ p, u.pool p = m.pool p := fun p => by rw [transfers.rest]; rfl
  have player : (u.call k).poolPlayer = (m.call k).poolPlayer := by rw [(transfers.calls k).fields]
  exact ⟨fun p hp => by rw [pool]; exact h.taken p (player ▸ hp),
    fun p hp => by rw [pool]; exact h.others p (player ▸ hp)⟩

namespace State.Rejoins

variable {s w m : State} {k : CallId} {q : QueueId} {c : Call} {freed : Option PoolId}
  (h : s.Rejoins m k q c w.queue freed) (walked : s.OnlyDiverted w)
include h walked

theorem params (x : QueueId) : (m.queue x).params = (s.queue x).params := by
  by_cases hx : x = q
  · subst hx; rw [h.queue]; rfl
  · rw [h.otherQueues x hx, walked.queue]

theorem movedOut (x : QueueId) : (m.queue x).counters.movedOut = (s.queue x).counters.movedOut := by
  by_cases hx : x = q
  · subst hx; rw [h.queue]; rfl
  · rw [h.otherQueues x hx, walked.queue]

end State.Rejoins

section
variable {s : State} {q accepting : QueueId} {k : CallId} {path : List QueueId} (hs : s.Taking) (agree : s.RecordsAgree)
  (live : (s.call k).state ≠ .FREE) (hq : (s.queue q).defined = true) (tag : Tag)
include hs agree live hq

/-- The C_MOVE of a QUEUED call: the walk, the move and the close of the request (R34, R35). -/
theorem State.Taking.cMove_queued (queued : (s.call k).state = .QUEUED) (foreign : q ≠ (s.call k).queue)
    (walks : s.WalksTo (some (s.call k).queue) q path accepting) : ∃ w u t : State,
      exec (.cMove tag (s.handle k).word (word q.val)) s = .next t ∧
      (∀ x, w.queue x = s.passed (some (s.call k).queue) path x) ∧
      s.Rejoins u k accepting (s.call k).untreated.moving (w.movedOutOf (s.call k).queue k) (s.call k).poolPlayer ∧
      u.Closes t ∧ t.Replies .DONE .NONE 0x23 tag [word accepting.val, word (u.call k).state.code] := by
  obtain ⟨w, walk, walked, queues⟩ := walks.walk
  have apart : accepting ≠ (s.call k).queue := fun e => walks.accept.2 (congrArg some e.symm)
  obtain ⟨moveCall, rejoins⟩ := walked.moves_queued agree (walks.accepting_kept queues) queued apart
  have run := hs.cMove_accepted live tag (by rw [queued]; decide) (fun _ => foreign) hq
    (by rw [Call.ownQueue, if_pos queued]; exact walk)
  rw [moveCall] at run
  obtain ⟨t, ht, closes, replies⟩ := (w.moveTo k accepting).closes .DONE .NONE
    [word accepting.val, word ((w.moveTo k accepting).call k).state.code] 0x23 tag (by rw [rejoins.rest]; exact hs.2)
  exact ⟨w, _, t, run.trans (congrArg _ ht), queues, rejoins, closes, replies⟩

/-- The C_MOVE of a CONNECTED call: the walk, the move, the wrap and the close of the request (R34, R36). -/
theorem State.Taking.cMove_connected {a : AgentId} {start : Nat} (connected : (s.call k).state = .CONNECTED)
    (agent : (s.call k).agent = some a) (talk : (s.call k).talkStart = some start)
    (walks : s.WalksTo none q path accepting) : ∃ w m u t : State,
      exec (.cMove tag (s.handle k).word (word q.val)) s = .next t ∧ s.OnlyDiverted w ∧
      (∀ x, w.queue x = s.passed none path x) ∧
      s.Rejoins m k accepting (s.call k).disconnected.moving w.queue none ∧
      m.wrapTransfer (some a) (s.call k).queue (s.now - start) = u ∧ m.Transfers u ∧ u.Closes t ∧
      t.Replies .DONE .NONE 0x23 tag [word accepting.val, word (m.call k).state.code] := by
  obtain ⟨w, walk, walked, queues⟩ := walks.walk
  have known : (s.call k).state ≠ .OFFERED := by rw [connected]; decide
  have unqueued : (s.call k).state ≠ .QUEUED := by rw [connected]; decide
  obtain ⟨moveTo, rejoins⟩ := walked.moves_connected agree (walks.accepting_kept queues) connected agent talk
  have run := hs.cMove_accepted live tag known (fun h => absurd h unqueued) hq
    (by rw [Call.ownQueue, if_neg unqueued]; exact walk)
  rw [moveTo] at run
  generalize w.moveCall k accepting = m at rejoins run
  have transfers := m.wrapTransfer_transfers a (s.call k).queue (s.now - start)
  obtain ⟨t, ht, closes, replies⟩ := (m.wrapTransfer (some a) (s.call k).queue (s.now - start)).closes .DONE .NONE
    [word accepting.val, word (m.call k).state.code] 0x23 tag (by rw [transfers.rest, rejoins.rest]; exact hs.2)
  exact ⟨w, m, _, t, run.trans (congrArg _ ht), walked, queues, rejoins, rfl, transfers, closes, replies⟩

end

/-- Settles O26: the call leaves its queue or its connection, joins the accepting queue and settles there; the wrap of a
transfer follows, and touches of the calls at most one that it offers. -/
theorem cMoveQueuesTheCallAgain : Obligations.CMoveQueuesTheCallAgain := by
  intro tag k q path accepting s hs agree live c r own entry moved asked
  refine ⟨fun queued foreign hq walks => ?_, fun a start connected agent talk hq walks => ?_,
    hs.cMove_offered live tag, hs.cMove_own live tag, hs.cMove_undefined live tag,
    fun last known foreign hq ends => ?_⟩
  · have ownQueue : own = some c.queue := if_pos queued
    rw [ownQueue] at walks ⊢
    obtain ⟨w, u, t, run, queues, rejoins, closes, replies⟩ := hs.cMove_queued agree live hq tag queued foreign walks
    have apart : accepting ≠ c.queue := fun e => walks.accept.2 (congrArg some e.symm)
    have same := closes.call_same k
    have call := rejoins.call
    have own_kept : w.queue c.queue = r := by rw [queues, State.passed, if_neg fun h => h.2 rfl]
    refine ⟨t, run, ?_, ?_, ?_, ?_, ?_, ?_, ?_, ?_, ?_, ?_, ?_, ?_, ?_, fun x hx hx' => ?_, ?_, ?_,
      fun full heard => ?_, fun offered => ?_, fun none => ?_⟩
    · rw [same.state]; exact rejoins.state
    · rw [same.state]; exact replies
    · rw [same.queue, call]
    · rw [same.entry, call]; rfl
    · rw [same.joinSeq, call]
    · rw [same.moveCount, call]; rfl
    · rw [same.overflowSpent, call]; rfl
    · rw [same.gen, call]; rfl
    · rw [same.arrival, call]; rfl
    · rw [same.cls, call]; rfl
    · rw [same.callerTag, call]; rfl
    · rw [closes.queue]; exact rejoins.queue
    · rw [closes.queue, rejoins.otherQueues _ apart.symm, State.movedOutOf, if_pos rfl, own_kept]
    · rw [closes.queue, rejoins.otherQueues x hx, State.movedOutOf, if_neg hx', queues]
    · rw [closes.joinSeq, rejoins.rest]
    · exact rejoins.sameLibrary.trans closes.library
    · have quiet : u.drain = u := u.drain_full (by rw [rejoins.rest]; exact full)
      rw [closes.calls, quiet]
      exact rejoins.audio (by simpa [Call.untreated, Call.moving, Option.isSome_iff_ne_none] using .inr heard)
    · rw [same.state] at offered
      rw [same.audio, same.channel, same.poolPlayer, same.nextAnnouncement]
      exact rejoins.untreated offered
    · have awaits := rejoins.waits none
      obtain ⟨d, treated, audio, channel, next, player⟩ := awaits.treated
      refine ⟨⟨d, treated, ?_⟩, ?_, fun heard => ?_, ?_, fun j hj => ?_, ?_, fun a => ?_⟩
      · rw [awaits.state, awaits.agent, awaits.savedReadySince] at call
        rw [← audio, ← channel, ← next, ← player rfl]
        exact (Call.sameButNotices_of call).trans same
      · exact (awaits.players rfl).closed closes
      · obtain ⟨marks, listed⟩ := awaits.heard (same.channel ▸ heard)
        exact rejoins.reports.audioReported (by decide) closes (by rw [rejoins.rest]; rfl) (by rw [rejoins.rest]) listed
          marks
      · rw [closes.queue]; exact awaits.waiting
      · exact closes.call_of (awaits.others j hj)
      · rw [closes.readyList, awaits.readyList]
      · exact closes.agent_of (awaits.agents a)
  · obtain ⟨w, m, u, t, run, walked, queues, rejoins, hu, transfers, closes, replies⟩ :=
      hs.cMove_connected agree live hq tag connected agent talk walks
    have agent_kept : m.agent a = s.agent a := (rejoins.unready a (agree.not_ready_of_connected connected agent)).1
    have params : (m.queue c.queue).params = r.params := rejoins.params walked c.queue
    have same := closes.call_same k
    have may := transfers.calls k
    have call := rejoins.call
    have now : m.now = s.now := by rw [rejoins.rest]; rfl
    have reports : s.Reports u 1028 := rejoins.reports.trans transfers.reports
    have room : u.ringRoom = s.ringRoom := by rw [transfers.rest, rejoins.rest]; rfl
    have posted : u.notices.posted = s.notices.posted := by rw [transfers.rest, rejoins.rest]
    refine ⟨t, run, ?_, ?_, ?_, ?_, ?_, ?_, ?_, ?_, ?_, fun x => ?_, ?_, ?_, fun none => ?_,
      fun wraps => ?_, fun ends => ?_⟩
    · rw [same.state]
      exact may.state.elim (fun e => e ▸ rejoins.state) .inr
    · rw [same.queue, may.fields, call]
    · rw [same.entry, may.fields, call]; rfl
    · rw [same.joinSeq, may.fields, call]
    · rw [same.moveCount, may.fields, call]; rfl
    · rw [same.overflowSpent, may.fields, call]; rfl
    · rw [same.talkStart, may.fields, call]; rfl
    · rw [same.gen, may.fields, call]; rfl
    · rw [closes.queue, (transfers.counters accepting).1, rejoins.queue]
    · rw [closes.queue, (transfers.counters x).2, rejoins.movedOut walked]
    · rw [closes.joinSeq, transfers.rest, rejoins.rest]
    · exact rejoins.sameLibrary.trans (transfers.sameLibrary.trans closes.library)
    · have awaits := rejoins.waits none
      obtain ⟨d, treated, audio, channel, next, player⟩ := awaits.treated
      refine ⟨⟨d, treated.congr rfl rfl rfl fun p => by simp, ?_, ?_, fun held => ?_, ?_⟩, fun held => ?_,
        fun heard => ?_⟩
      · rw [same.audio, may.fields, audio]
      · rw [same.channel, may.fields, channel]
      · rw [same.poolPlayer, may.fields, player held]
      · rw [same.nextAnnouncement, may.fields, next]
      · exact ((awaits.players held).transferred transfers).closed closes
      · rw [same.channel, may.fields] at heard
        obtain ⟨marks, listed⟩ := awaits.heard heard
        exact reports.audioReported (by decide) closes room posted (transfers.reports.mem listed)
          (may.audio.trans marks)
    · rw [State.wrapTransfer_stands _ _ _ _ (params ▸ wraps)] at hu
      subst hu
      refine ⟨?_, closes.agent_of ?_, ?_, fun x hx => ?_, fun none => ?_⟩
      · rw [same.state]; exact replies
      · rw [State.enterWrap_eq, State.agent_setAgent, if_pos rfl, agent_kept, params, now]
        rfl
      · rw [closes.queue]; exact rejoins.queue
      · rw [closes.queue]; exact (rejoins.otherQueues x hx).trans (queues x)
      · have awaits := rejoins.waits none
        refine ⟨same.state.trans awaits.state, ?_, fun j hj => closes.call_of (awaits.others j hj), ?_, fun b hb => ?_⟩
        · rw [closes.queue]; exact awaits.waiting
        · rw [closes.readyList]; exact awaits.readyList
        · exact closes.agent_of ((State.agent_setAgent m a b _).trans ((if_neg (Ne.symm hb)).trans (awaits.agents b)))
    · rw [State.wrapTransfer_ends _ _ _ _ (params.symm ▸ ends)] at hu
      have done := (m.enterWrap a (s.call k).queue (s.now - start)).endWrap_done a
      rw [hu] at done
      refine ⟨⟨_, replies, ?_, ?_⟩, ?_, reports.agentReported (by decide) closes room posted done.listed done.marked⟩
      · exact rejoins.state.imp (fun e => by rw [e]; rfl) fun e => by rw [e]; rfl
      · intro h
        have queued : (m.call k).state = .QUEUED := h.elim (fun none => (rejoins.waits none).state) fun e =>
          may.state.elim (fun kept => kept.symm.trans (same.state.symm.trans e)) fun offered => by
            rw [same.state, offered] at e; cases e
        rw [queued]
        rfl
      · have wrapEnds := done.wrapEnds
        rw [agent_kept] at wrapEnds
        exact (rejoins.wrapEnds queues agent_kept wrapEnds).closed closes
  · obtain ⟨w, walk, walked, queues⟩ := ends.walk
    have run := hs.cMove_diverted live tag known foreign hq walk
    rw [walked.replying hs] at run
    exact ⟨_, run, rfl, queues⟩

end Sys2Proof.Machine
end

section
/-! PROOFS. The agreement of the records while some calls and agents stand aside: the clauses of R24, R25, R50 and R76 on
all the others, and what takes a record aside and puts it back. -/

namespace Sys2Proof.Machine

/-! ### The fields of one agent -/

/-- The fields of an agent's record that belong to one state hold their value outside it (Table 3-4). -/
structure Agent.FieldsHeld (g : Agent) : Prop where
  away : g.state ≠ .AWAY → g.awayReason = 0
  wrap : g.state ≠ .WRAP →
    g.wrapQueue = 0 ∧ g.wrapTalk = 0 ∧ g.wrapStart = 0 ∧ g.wrapDeadline = ⟨0, false⟩ ∧ g.wrapLimit = 0
  pending : g.state ≠ .TALKING → g.state ≠ .WRAP → g.pending = .NONE
  call : g.state ≠ .OFFERED → g.state ≠ .TALKING → g.call = none

theorem State.fieldsOfState_iff (s : State) : s.FieldsOfState ↔ ∀ a, (s.agent a).FieldsHeld :=
  ⟨fun h a => ⟨h.away a, h.wrap a, h.pending a, h.call a⟩,
    fun h => ⟨fun a => (h a).away, fun a => (h a).wrap, fun a => (h a).pending, fun a => (h a).call⟩⟩

/-! ### The law -/

/-- Call `k` and agent `a` are paired, the call under offer to the agent or, its talk start noted, connected to it (R76,
R81). -/
def State.Serves (s : State) (k : CallId) (a : AgentId) : Prop :=
  s.Paired k a ∧ (((s.call k).state = .OFFERED ∧ (s.agent a).state = .OFFERED) ∨
    ((s.call k).state = .CONNECTED ∧ (s.agent a).state = .TALKING ∧ (s.call k).talkStart ≠ none))

theorem State.Serves.states {s : State} {k : CallId} {a : AgentId} (h : s.Serves k a) :
    ((s.call k).state = .OFFERED ∧ (s.agent a).state = .OFFERED) ∨
      ((s.call k).state = .CONNECTED ∧ (s.agent a).state = .TALKING ∧ (s.call k).talkStart ≠ none) := h.2

theorem State.Serves.not_queued {s : State} {k : CallId} {a : AgentId} (h : s.Serves k a) :
    (s.call k).state ≠ .QUEUED := fun e => by simpa [e] using h.states

theorem State.Serves.not_free {s : State} {k : CallId} {a : AgentId} (h : s.Serves k a) :
    (s.call k).state ≠ .FREE := fun e => by simpa [e] using h.states

theorem State.Serves.not_ready {s : State} {k : CallId} {a : AgentId} (h : s.Serves k a) :
    (s.agent a).state ≠ .READY := fun e => by simpa [e] using h.states

theorem State.Serves.agent_unique {s : State} {k : CallId} {a b : AgentId} (h : s.Serves k a) (h' : s.Serves k b) :
    a = b := Option.some.inj (h.1.1.symm.trans h'.1.1)

theorem State.Serves.call_unique {s : State} {j k : CallId} {a : AgentId} (h : s.Serves j a) (h' : s.Serves k a) :
    j = k := congrArg Handle.slot (Option.some.inj (h.1.2.symm.trans h'.1.2))

/-- The records agree but for the calls `K` and the agents `A`, which stand aside: in no list and in no pair. With `F`
the fields of every agent that does not stand aside hold their values, and with `O` the waiting lists are in order. -/
structure State.AgreesBut (F O : Prop) (K : List CallId) (A : List AgentId) (s : State) : Prop where
  listNodup : ∀ q, (s.queue q).waiting.Nodup
  listed : ∀ q k, k ∈ (s.queue q).waiting ↔ k ∉ K ∧ (s.call k).state = .QUEUED ∧ (s.call k).queue = q
  readyNodup : s.readyList.Nodup
  ready : ∀ a, a ∈ s.readyList ↔ a ∉ A ∧ (s.agent a).state = .READY
  readyOrder : s.readyList.Pairwise fun a b => s.readyBehind a b = true
  served : ∀ k ∉ K, (s.call k).state = .OFFERED ∨ (s.call k).state = .CONNECTED → ∃ a ∉ A, s.Serves k a
  serving : ∀ a ∉ A, (s.agent a).state = .OFFERED ∨ (s.agent a).state = .TALKING → ∃ k ∉ K, s.Serves k a
  fields : F → ∀ a ∉ A, (s.agent a).FieldsHeld
  ordered : O → s.ListsOrdered

theorem State.RecordsAgree.agreesBut {s : State} (h : s.RecordsAgree) :
    s.AgreesBut s.FieldsOfState s.ListsOrdered [] [] where
  listNodup := h.listNodup
  listed q k := by simpa using h.listed q k
  readyNodup := h.readyNodup
  ready a := by simpa using h.ready a
  readyOrder := h.readyOrder
  served k _ hk := by
    rcases hk with hk | hk
    · obtain ⟨a, ha, paired⟩ := h.offered k hk
      exact ⟨a, List.not_mem_nil, paired, .inl ⟨hk, ha⟩⟩
    · obtain ⟨a, ha, paired⟩ := h.connected k hk
      exact ⟨a, List.not_mem_nil, paired, .inr ⟨hk, ha, h.talking k hk⟩⟩
  serving a _ ha := by
    rcases ha with ha | ha
    · obtain ⟨k, hk, paired⟩ := h.offeredAgent a ha
      exact ⟨k, List.not_mem_nil, paired, .inl ⟨hk, ha⟩⟩
    · obtain ⟨k, hk, paired⟩ := h.talkingAgent a ha
      exact ⟨k, List.not_mem_nil, paired, .inr ⟨hk, ha, h.talking k hk⟩⟩
  fields f a _ := (s.fieldsOfState_iff.mp f) a
  ordered := id

theorem State.AgreesBut.recordsAgree {F O : Prop} {s : State} (h : s.AgreesBut F O [] []) : s.RecordsAgree := by
  have ofCall : ∀ k, (s.call k).state = .OFFERED ∨ (s.call k).state = .CONNECTED → ∃ a, s.Serves k a := fun k hk =>
    let ⟨a, _, ha⟩ := h.served k List.not_mem_nil hk; ⟨a, ha⟩
  have ofAgent : ∀ a, (s.agent a).state = .OFFERED ∨ (s.agent a).state = .TALKING → ∃ k, s.Serves k a := fun a ha =>
    let ⟨k, _, hk⟩ := h.serving a List.not_mem_nil ha; ⟨k, hk⟩
  refine ⟨h.listNodup, fun q k => by simpa using h.listed q k, h.readyNodup, fun a => by simpa using h.ready a,
    h.readyOrder, fun k hk => ?_, fun k hk => ?_, fun k hk => ?_, fun a ha => ?_, fun a ha => ?_⟩
  · obtain ⟨a, paired, states⟩ := ofCall k (.inl hk)
    exact ⟨a, by simpa [hk] using states, paired⟩
  · obtain ⟨a, paired, states⟩ := ofCall k (.inr hk)
    rw [hk] at states
    exact ⟨a, (states.resolve_left nofun).2.1, paired⟩
  · obtain ⟨a, paired, states⟩ := ofCall k (.inr hk)
    rw [hk] at states
    exact (states.resolve_left nofun).2.2
  · obtain ⟨k, paired, states⟩ := ofAgent a (.inl ha)
    rw [ha] at states
    exact ⟨k, (states.resolve_right nofun).1, paired⟩
  · obtain ⟨k, paired, states⟩ := ofAgent a (.inr ha)
    rw [ha] at states
    exact ⟨k, (states.resolve_left nofun).1, paired⟩

/-! ### What the law looks at -/

/-- Two records of a call that differ in nothing the lists and the pairs look at. -/
structure Call.SameKeys (c d : Call) : Prop where
  state : d.state = c.state
  gen : d.gen = c.gen
  queue : d.queue = c.queue
  agent : d.agent = c.agent
  talkStart : d.talkStart = c.talkStart

/-- Nor in its key in a waiting list (R25). -/
structure Call.SamePlace (c d : Call) : Prop extends c.SameKeys d where
  entry : d.entry = c.entry
  cls : d.cls = c.cls
  joinSeq : d.joinSeq = c.joinSeq

/-- Two records of an agent that differ in nothing the ready list and the pairs look at, the second with its fields held
where the first has them held. -/
structure Agent.SameKeys (g h : Agent) : Prop where
  state : h.state = g.state
  readySince : h.readySince = g.readySince
  call : h.call = g.call
  fields : g.FieldsHeld → h.FieldsHeld

theorem Call.SamePlace.refl (c : Call) : c.SamePlace c := ⟨⟨rfl, rfl, rfl, rfl, rfl⟩, rfl, rfl, rfl⟩

theorem Agent.SameKeys.refl (g : Agent) : g.SameKeys g := ⟨rfl, rfl, rfl, id⟩

theorem Call.SamePlace.trans {c d e : Call} (h : c.SamePlace d) (h' : d.SamePlace e) : c.SamePlace e :=
  ⟨⟨h'.state.trans h.state, h'.gen.trans h.gen, h'.queue.trans h.queue, h'.agent.trans h.agent,
    h'.talkStart.trans h.talkStart⟩, h'.entry.trans h.entry, h'.cls.trans h.cls, h'.joinSeq.trans h.joinSeq⟩

theorem Agent.SameKeys.trans {g h i : Agent} (e : g.SameKeys h) (e' : h.SameKeys i) : g.SameKeys i :=
  ⟨e'.state.trans e.state, e'.readySince.trans e.readySince, e'.call.trans e.call, fun f => e'.fields (e.fields f)⟩

/-- Two calls that differ in other fields than these. -/
theorem Call.samePlace_of {c d : Call} (e : d = { c with
    callerTag := d.callerTag, arrival := d.arrival, moveCount := d.moveCount, overflowSpent := d.overflowSpent
    overflowDue := d.overflowDue, savedReadySince := d.savedReadySince, offerPosted := d.offerPosted
    offerDeadline := d.offerDeadline, audio := d.audio, channel := d.channel, poolPlayer := d.poolPlayer
    nextAnnouncement := d.nextAnnouncement, marks := d.marks, movedFrom := d.movedFrom
    withdrawnAgent := d.withdrawnAgent }) : c.SamePlace d := by
  rw [e]
  exact ⟨⟨rfl, rfl, rfl, rfl, rfl⟩, rfl, rfl, rfl⟩

/-- Two agents that differ in fields that belong to no state. -/
theorem Agent.sameKeys_of {g h : Agent} (e : h = { g with
    station := h.station, skills := h.skills, stateEntry := h.stateEntry, counters := h.counters, mark := h.mark }) :
    g.SameKeys h := by
  rw [e]
  exact ⟨rfl, rfl, rfl, fun f => ⟨f.away, f.wrap, f.pending, f.call⟩⟩

theorem Call.SameButNotices.samePlace {c d : Call} (h : c.SameButNotices d) : c.SamePlace d :=
  ⟨⟨h.state, h.gen, h.queue, h.agent, h.talkStart⟩, h.entry, h.cls, h.joinSeq⟩

theorem Agent.SameButMark.sameKeys {g h : Agent} (e : g.SameButMark h) : g.SameKeys h :=
  Agent.sameKeys_of (by unfold Agent.SameButMark at e; rw [e])

theorem notAfter_congr (boost : Nat) {a a' b b' : Call} (ha : a.SamePlace a') (hb : b.SamePlace b') :
    notAfter boost a' b' = notAfter boost a b := by
  unfold notAfter Call.effectiveEntry
  rw [ha.entry, ha.cls, ha.joinSeq, hb.entry, hb.cls, hb.joinSeq]

section
variable {F O : Prop} {K : List CallId} {A : List AgentId} {s t : State}

/-- A pair looks at the keys of its call and its agent alone. -/
theorem State.Serves.congr {k : CallId} {a : AgentId} (h : s.Serves k a) (call : (s.call k).SameKeys (t.call k))
    (agent : (s.agent a).SameKeys (t.agent a)) : t.Serves k a := by
  obtain ⟨⟨toAgent, toCall⟩, states⟩ := h
  refine ⟨⟨call.agent.trans toAgent, agent.call.trans (toCall.trans ?_)⟩, ?_⟩
  · rw [State.handle, State.handle, call.gen]
  · rw [call.state, agent.state, call.talkStart]
    exact states

/-- The law holds of a state whose lists hold the same calls and, with `O`, are in order, and whose records that do not
stand aside have the same keys. -/
theorem State.AgreesBut.reorder (h : s.AgreesBut F O K A)
    (waiting : ∀ q, (t.queue q).waiting.Perm (s.queue q).waiting) (ready : t.readyList = s.readyList)
    (calls : ∀ k ∉ K, (s.call k).SameKeys (t.call k)) (agents : ∀ a ∉ A, (s.agent a).SameKeys (t.agent a))
    (ordered : O → t.ListsOrdered) : t.AgreesBut F O K A where
  listNodup q := (waiting q).nodup_iff.mpr (h.listNodup q)
  listed q k := by
    rw [(waiting q).mem_iff, h.listed]
    exact and_congr_right fun hk => by rw [(calls k hk).state, (calls k hk).queue]
  readyNodup := ready ▸ h.readyNodup
  ready a := by
    rw [ready, h.ready]
    exact and_congr_right fun ha => by rw [(agents a ha).state]
  readyOrder := by
    rw [ready]
    refine h.readyOrder.imp_of_mem fun {a b} ha hb behind => ?_
    have since : ∀ x ∈ s.readyList, (t.agent x).readySince = (s.agent x).readySince := fun x hx =>
      (agents x ((h.ready x).mp hx).1).readySince
    unfold State.readyBehind at *
    rwa [since a ha, since b hb]
  served k hk state := by
    rw [(calls k hk).state] at state
    obtain ⟨a, ha, serves⟩ := h.served k hk state
    exact ⟨a, ha, serves.congr (calls k hk) (agents a ha)⟩
  serving a ha state := by
    rw [(agents a ha).state] at state
    obtain ⟨k, hk, serves⟩ := h.serving a ha state
    exact ⟨k, hk, serves.congr (calls k hk) (agents a ha)⟩
  fields f a ha := (agents a ha).fields (h.fields f a ha)
  ordered := ordered

/-- Nothing the law looks at has changed between two states but the records of the calls `K` and of the agents `A`. -/
structure State.SameKeys (K : List CallId) (A : List AgentId) (s t : State) : Prop where
  waiting : ∀ q, (t.queue q).waiting = (s.queue q).waiting
  boost : ∀ q, (t.queue q).params.classBoost = (s.queue q).params.classBoost
  ready : t.readyList = s.readyList
  calls : ∀ k ∉ K, (s.call k).SamePlace (t.call k)
  agents : ∀ a ∉ A, (s.agent a).SameKeys (t.agent a)

theorem State.AgreesBut.congr (h : s.AgreesBut F O K A) (same : State.SameKeys K A s t) : t.AgreesBut F O K A := by
  refine h.reorder (fun q => .of_eq (same.waiting q)) same.ready (fun k hk => (same.calls k hk).toSameKeys) same.agents
    fun o q => ?_
  rw [same.waiting, same.boost]
  refine (h.ordered o q).imp_of_mem fun {a b} ha hb before => ?_
  rw [notAfter_congr _ (same.calls a ((h.listed q a).mp ha).1) (same.calls b ((h.listed q b).mp hb).1)]
  exact before

/-- The tables of the queues, calls and agents and the ready list are the same. -/
theorem State.sameKeys_of_tables (queues : t.queues = s.queues) (calls : t.calls = s.calls) (agents : t.agents = s.agents)
    (ready : t.readyList = s.readyList) : State.SameKeys K A s t := by
  have queue : ∀ q, t.queue q = s.queue q := fun q => by unfold State.queue; rw [queues]
  have call : ∀ k, t.call k = s.call k := fun k => by unfold State.call; rw [calls]
  have agent : ∀ a, t.agent a = s.agent a := fun a => by unfold State.agent; rw [agents]
  exact ⟨fun q => by rw [queue], fun q => by rw [queue], ready, fun k _ => by rw [call]; exact .refl _,
    fun a _ => by rw [agent]; exact .refl _⟩

theorem State.OnlyNotices.sameKeys (h : s.OnlyNotices t) : State.SameKeys K A s t := by
  have queue : ∀ q, t.queue q = s.queue q := fun q => by unfold State.queue; rw [h.queues]
  exact ⟨fun q => by rw [queue], fun q => by rw [queue], h.readyList, fun k _ => (h.calls k).samePlace,
    fun a _ => (h.agents a).sameKeys⟩

theorem State.OnlyTreatment.sameKeys {k : CallId} (h : s.OnlyTreatment t k) : State.SameKeys K A s t := by
  refine ⟨fun q => by rw [h.queue], fun q => by rw [h.queue], h.readyList, fun j _ => ?_,
    fun a _ => by rw [h.agent]; exact .refl _⟩
  by_cases hj : j = k
  · rw [hj, h.call]
    exact Call.samePlace_of rfl
  · rw [h.others j hj]
    exact .refl _

theorem State.OnlyDiverted.sameKeys (h : s.OnlyDiverted t) : State.SameKeys K A s t :=
  ⟨fun q => by rw [h.queue], fun q => by rw [h.queue], h.readyList, fun k _ => by rw [h.call]; exact .refl _,
    fun a _ => by rw [h.agent]; exact .refl _⟩

theorem State.setCall_sameKeys {k : CallId} {c : Call} (h : k ∉ K → (s.call k).SamePlace c) :
    State.SameKeys K A s (s.setCall k c) := by
  refine ⟨fun _ => rfl, fun _ => rfl, rfl, fun j hj => ?_, fun _ _ => .refl _⟩
  rw [State.call_setCall]
  split
  case isTrue e => subst e; exact h hj
  case isFalse => exact .refl _

theorem State.setAgent_sameKeys {a : AgentId} {g : Agent} (h : a ∉ A → (s.agent a).SameKeys g) :
    State.SameKeys K A s (s.setAgent a g) := by
  refine ⟨fun _ => rfl, fun _ => rfl, rfl, fun _ _ => .refl _, fun b hb => ?_⟩
  rw [State.agent_setAgent]
  split
  case isTrue e => subst e; exact h hb
  case isFalse => exact .refl _

theorem State.setQueue_sameKeys {q : QueueId} {r : Queue} (waiting : r.waiting = (s.queue q).waiting)
    (boost : r.params.classBoost = (s.queue q).params.classBoost) : State.SameKeys K A s (s.setQueue q r) := by
  refine ⟨fun x => ?_, fun x => ?_, rfl, fun _ _ => .refl _, fun _ _ => .refl _⟩
  · rw [State.queue_setQueue]
    split
    case isTrue e => subst e; exact waiting
    case isFalse => rfl
  · rw [State.queue_setQueue]
    split
    case isTrue e => subst e; exact boost
    case isFalse => rfl

theorem State.markCall_sameKeys (k : CallId) (kind : NoticeKind) : State.SameKeys K A s (s.markCall k kind) := by
  refine ⟨fun q => by rw [State.markCall_eq]; rfl, fun q => by rw [State.markCall_eq]; rfl, by rw [State.markCall_eq],
    fun j _ => ?_, fun a _ => by rw [State.markCall_eq]; exact .refl _⟩
  rw [State.markCall_call]
  split
  case isTrue e => subst e; exact Call.samePlace_of rfl
  case isFalse => exact .refl _

theorem State.markAgent_sameKeys (a : AgentId) : State.SameKeys K A s (s.markAgent a) := by
  refine ⟨fun q => by rw [State.markAgent_eq]; rfl, fun q => by rw [State.markAgent_eq]; rfl,
    by rw [State.markAgent_eq], fun j _ => by rw [State.markAgent_eq]; exact .refl _, fun b _ => ?_⟩
  rw [State.markAgent_agent]
  split
  case isTrue e => subst e; exact Agent.sameKeys_of rfl
  case isFalse => exact .refl _

end

end Sys2Proof.Machine
end

section
/-! PROOFS. The records taken aside and put back: a call in and out of a waiting list, an agent in and out of the ready
list, a pair, and the records that stand in no list (R24, R25, R51, R76). -/

namespace Sys2Proof.Machine

/-! ### Lists -/

theorem State.setWaiting_self (s : State) (q : QueueId) : s.setWaiting q (s.queue q).waiting = s := by
  have same : s.queues.set q.val s.queues[q.val] = s.queues := Vector.set_getElem_self _
  exact congrArg (fun v => { s with queues := v }) same

/-- A call that does not stand in a list does not leave it (R24). -/
theorem State.leaveList_absent (s : State) (q : QueueId) (k : CallId) (h : k ∉ (s.queue q).waiting) :
    s.leaveList q k = s := by
  rw [State.leaveList, List.erase_of_not_mem h, State.setWaiting_self]

/-- An entry inserted where it belongs keeps a list in order, the relation being transitive. -/
theorem insertWhere_pairwise {α : Type} {R : α → α → Prop} (trans : ∀ {a b c}, R a b → R b c → R a c)
    {stop : α → Bool} {x : α} {l : List α} (h : l.Pairwise R) (before : ∀ y ∈ l, stop y = true → R x y)
    (behind : ∀ y ∈ l, stop y = false → R y x) : (insertWhere stop x l).Pairwise R := by
  induction l with
  | nil => exact List.pairwise_singleton _ _
  | cons y ys ih =>
    obtain ⟨hy, hys⟩ := List.pairwise_cons.mp h
    unfold insertWhere
    split
    case isTrue here =>
      have first := before y List.mem_cons_self here
      refine List.pairwise_cons.mpr ⟨fun z hz => ?_, h⟩
      rcases List.mem_cons.mp hz with rfl | hz
      · exact first
      · exact trans first (hy z hz)
    case isFalse later =>
      refine List.pairwise_cons.mpr ⟨fun z hz => ?_, ih hys (fun z hz => before z (List.mem_cons_of_mem _ hz))
        fun z hz => behind z (List.mem_cons_of_mem _ hz)⟩
      rcases List.mem_cons.mp ((insertWhere_perm _ x ys).subset hz) with rfl | hz
      · exact behind y List.mem_cons_self (by simpa using later)
      · exact hy z hz

/-- An agent in no list and in no pair: AWAY, LOGGED_OUT or in WRAP. -/
def Agent.Apart (g : Agent) : Prop := g.state ≠ .READY ∧ g.state ≠ .OFFERED ∧ g.state ≠ .TALKING

section
variable {F O : Prop} {K : List CallId} {A : List AgentId} {s : State}

namespace State.AgreesBut

/-! ### Calls -/

/-- A FREE slot is taken aside. -/
theorem setAside_free (h : s.AgreesBut F O K A) {k : CallId} (free : (s.call k).state = .FREE) :
    s.AgreesBut F O (k :: K) A where
  listNodup := h.listNodup
  listed q j := by
    rw [h.listed, List.mem_cons, not_or]
    refine ⟨fun ⟨hj, queued⟩ => ⟨⟨fun e => ?_, hj⟩, queued⟩, fun ⟨⟨_, hj⟩, queued⟩ => ⟨hj, queued⟩⟩
    rw [e, free] at queued
    exact nomatch queued.1
  readyNodup := h.readyNodup
  ready := h.ready
  readyOrder := h.readyOrder
  served j hj := h.served j fun m => hj (List.mem_cons_of_mem _ m)
  serving a ha state := by
    obtain ⟨j, hj, serves⟩ := h.serving a ha state
    refine ⟨j, fun m => ?_, serves⟩
    rcases List.mem_cons.mp m with rfl | m
    · exact serves.not_free free
    · exact hj m
  fields := h.fields
  ordered := h.ordered

/-- A slot that stands aside is FREE again. -/
theorem putBack_free {k : CallId} (h : s.AgreesBut F O (k :: K) A) (free : (s.call k).state = .FREE) :
    s.AgreesBut F O K A where
  listNodup := h.listNodup
  listed q j := by
    rw [h.listed, List.mem_cons, not_or]
    refine ⟨fun ⟨⟨_, hj⟩, queued⟩ => ⟨hj, queued⟩, fun ⟨hj, queued⟩ => ⟨⟨fun e => ?_, hj⟩, queued⟩⟩
    rw [e, free] at queued
    exact nomatch queued.1
  readyNodup := h.readyNodup
  ready := h.ready
  readyOrder := h.readyOrder
  served j hj state := by
    refine h.served j (fun m => ?_) state
    rcases List.mem_cons.mp m with rfl | m
    · simp [free] at state
    · exact hj m
  serving a ha state := by
    obtain ⟨j, hj, serves⟩ := h.serving a ha state
    exact ⟨j, fun m => hj (List.mem_cons_of_mem _ m), serves⟩
  fields := h.fields
  ordered := h.ordered

/-- A call leaves its waiting list and stands aside (R24). -/
theorem leaveList (h : s.AgreesBut F O K A) {q : QueueId} {k : CallId} (hk : k ∈ (s.queue q).waiting) :
    (s.leaveList q k).AgreesBut F O (k :: K) A := by
  obtain ⟨_, queued, own⟩ := (h.listed q k).mp hk
  have waiting : ∀ r, ((s.leaveList q k).queue r).waiting = (s.queue r).waiting.erase k := fun r => by
    rw [State.leaveList, State.queue_setWaiting]
    split
    case isTrue e => rw [e]
    case isFalse e =>
      rw [List.erase_of_not_mem]
      exact fun m => e (own.symm.trans ((h.listed r k).mp m).2.2)
  have boost : ∀ r, ((s.leaveList q k).queue r).params = (s.queue r).params := fun r => by
    rw [State.leaveList, State.queue_setWaiting]
    split
    case isTrue e => rw [e]
    case isFalse => rfl
  refine ⟨fun r => by rw [waiting]; exact (h.listNodup r).erase k, fun r j => ?_, h.readyNodup, h.ready, h.readyOrder,
    fun j hj => h.served j fun m => hj (List.mem_cons_of_mem _ m), fun a ha state => ?_, h.fields, fun o r => ?_⟩
  · rw [waiting, (h.listNodup r).mem_erase_iff, h.listed, List.mem_cons, not_or, and_assoc]
    rfl
  · obtain ⟨j, hj, serves⟩ := h.serving a ha state
    refine ⟨j, fun m => ?_, serves⟩
    rcases List.mem_cons.mp m with rfl | m
    · exact serves.not_queued queued
    · exact hj m
  · rw [waiting, boost]
    exact (h.ordered o r).sublist List.erase_sublist

/-- A QUEUED call that stood aside takes its keyed place (R25). -/
theorem enterList {q : QueueId} {k : CallId} (h : s.AgreesBut F O (k :: K) A) (hk : k ∉ K)
    (queued : (s.call k).state = .QUEUED) (own : (s.call k).queue = q) : (s.enterList q k).AgreesBut F O K A := by
  have outside : ∀ r, k ∉ (s.queue r).waiting := fun r m => ((h.listed r k).mp m).1 List.mem_cons_self
  have other : ∀ r, r ≠ q → (s.enterList q k).queue r = s.queue r := fun r hr => by
    rw [State.enterList, State.queue_setWaiting, if_neg (Ne.symm hr)]
  have entered : (s.enterList q k).queue q =
      { s.queue q with waiting := s.keyedInsert (s.queue q).params.classBoost k (s.queue q).waiting } := by
    rw [State.enterList, State.queue_setWaiting, if_pos rfl]
  have perm := s.keyedInsert_perm (s.queue q).params.classBoost k (s.queue q).waiting
  refine ⟨fun r => ?_, fun r j => ?_, h.readyNodup, h.ready, h.readyOrder, fun j hj state => ?_, fun a ha state => ?_,
    h.fields, fun o r => ?_⟩
  · by_cases hr : r = q
    · rw [hr, entered]
      exact perm.nodup_iff.mpr (List.nodup_cons.mpr ⟨outside q, h.listNodup q⟩)
    · rw [other r hr]
      exact h.listNodup r
  · by_cases hr : r = q
    · rw [hr, entered, perm.mem_iff, List.mem_cons, h.listed, List.mem_cons, not_or]
      by_cases hj : j = k
      · simp only [hj, true_or, true_iff]
        exact ⟨hk, queued, own⟩
      · simp only [hj, false_or, not_false_eq_true, true_and]
        rfl
    · rw [other r hr, h.listed, List.mem_cons, not_or]
      by_cases hj : j = k
      · simp only [hj, not_true_eq_false, false_and, false_iff]
        exact fun m => hr (m.2.2.symm.trans own)
      · simp only [hj, not_false_eq_true, true_and]
        rfl
  · refine h.served j (fun m => ?_) state
    rcases List.mem_cons.mp m with rfl | m
    · rw [show (s.enterList q j).call j = s.call j from rfl, queued] at state
      simp at state
    · exact hj m
  · obtain ⟨j, hj, serves⟩ := h.serving a ha state
    exact ⟨j, fun m => hj (List.mem_cons_of_mem _ m), serves⟩
  · by_cases hr : r = q
    · rw [hr, entered]
      exact s.keyedInsert_sorted _ k _ (h.ordered o q)
    · rw [other r hr]
      exact h.ordered o r

/-! ### Agents -/

/-- An agent leaves the ready list and stands aside (R51). -/
theorem leaveReady (h : s.AgreesBut F O K A) {a : AgentId} (ha : a ∈ s.readyList) :
    (s.leaveReady a).AgreesBut F O K (a :: A) := by
  have state := ((h.ready a).mp ha).2
  have apart : ∀ k b, s.Serves k b → b ≠ a := fun k b serves e => serves.not_ready (e ▸ state)
  refine ⟨h.listNodup, h.listed, h.readyNodup.erase a, fun b => ?_, h.readyOrder.sublist List.erase_sublist,
    fun k hk state => ?_, fun b hb => h.serving b fun m => hb (List.mem_cons_of_mem _ m),
    fun f b hb => h.fields f b fun m => hb (List.mem_cons_of_mem _ m), h.ordered⟩
  · rw [State.leaveReady, State.setReadyList_readyList, h.readyNodup.mem_erase_iff, h.ready, List.mem_cons, not_or,
      and_assoc]
    rfl
  · obtain ⟨b, hb, serves⟩ := h.served k hk state
    exact ⟨b, fun m => (List.mem_cons.mp m).elim (apart k b serves) hb, serves⟩

/-- A READY agent that stood aside takes its place in the ready list (R50, R51). -/
theorem joinReady {a : AgentId} (h : s.AgreesBut F O K (a :: A)) (ha : a ∉ A) (state : (s.agent a).state = .READY)
    (held : F → (s.agent a).FieldsHeld) : (s.joinReady a).AgreesBut F O K A := by
  have outside : a ∉ s.readyList := fun m => ((h.ready a).mp m).1 List.mem_cons_self
  have perm : (s.joinReady a).readyList.Perm (a :: s.readyList) := insertWhere_perm _ _ _
  refine ⟨h.listNodup, h.listed, perm.nodup_iff.mpr (List.nodup_cons.mpr ⟨outside, h.readyNodup⟩), fun b => ?_, ?_,
    fun k hk state => ?_, fun b hb state' => ?_, fun f b hb => ?_, h.ordered⟩
  · rw [perm.mem_iff, List.mem_cons, h.ready, List.mem_cons, not_or]
    by_cases hb : b = a
    · simp only [hb, true_or, true_iff]
      exact ⟨ha, state⟩
    · simp only [hb, false_or, not_false_eq_true, true_and]
      rfl
  · refine insertWhere_pairwise (R := fun b c => s.readyBehind b c = true) (fun hab hbc => s.readyBehind_trans hab hbc)
      h.readyOrder (fun b _ before => before)
      fun b hb behind => ?_
    have hne : a ≠ b := fun e => outside (e ▸ hb)
    exact (s.readyBehind_total hne).resolve_left (by rw [behind]; decide)
  · obtain ⟨b, hb, serves⟩ := h.served k hk state
    exact ⟨b, fun m => hb (List.mem_cons_of_mem _ m), serves⟩
  · refine h.serving b (fun m => ?_) state'
    rcases List.mem_cons.mp m with rfl | m
    · rw [show (s.joinReady b).agent b = s.agent b from rfl, state] at state'
      simp at state'
    · exact hb m
  · by_cases e : b = a
    · rw [e]; exact held f
    · exact h.fields f b fun m => (List.mem_cons.mp m).elim e hb

/-- An agent in no list and in no pair is taken aside. -/
theorem setAside_apart (h : s.AgreesBut F O K A) {a : AgentId} (apart : (s.agent a).Apart) :
    s.AgreesBut F O K (a :: A) := by
  obtain ⟨notReady, notOffered, notTalking⟩ := apart
  refine ⟨h.listNodup, h.listed, h.readyNodup, fun b => ?_, h.readyOrder, fun k hk state => ?_,
    fun b hb => h.serving b fun m => hb (List.mem_cons_of_mem _ m),
    fun f b hb => h.fields f b fun m => hb (List.mem_cons_of_mem _ m), h.ordered⟩
  · rw [h.ready, List.mem_cons, not_or]
    exact ⟨fun ⟨hb, state⟩ => ⟨⟨fun e => notReady (e ▸ state), hb⟩, state⟩, fun ⟨⟨_, hb⟩, state⟩ => ⟨hb, state⟩⟩
  · obtain ⟨b, hb, serves⟩ := h.served k hk state
    refine ⟨b, fun m => ?_, serves⟩
    rcases List.mem_cons.mp m with rfl | m
    · exact serves.states.elim (fun e => notOffered e.2) fun e => notTalking e.2.1
    · exact hb m

/-- An agent that stood aside is in no list and in no pair. -/
theorem putBack_apart {a : AgentId} (h : s.AgreesBut F O K (a :: A)) (apart : (s.agent a).Apart)
    (held : F → (s.agent a).FieldsHeld) : s.AgreesBut F O K A := by
  obtain ⟨notReady, notOffered, notTalking⟩ := apart
  refine ⟨h.listNodup, h.listed, h.readyNodup, fun b => ?_, h.readyOrder, fun k hk state => ?_,
    fun b hb state => h.serving b (fun m => ?_) state, fun f b hb => ?_, h.ordered⟩
  · rw [h.ready, List.mem_cons, not_or]
    exact ⟨fun ⟨⟨_, hb⟩, state⟩ => ⟨hb, state⟩, fun ⟨hb, state⟩ => ⟨⟨fun e => notReady (e ▸ state), hb⟩, state⟩⟩
  · obtain ⟨b, hb, serves⟩ := h.served k hk state
    exact ⟨b, fun m => hb (List.mem_cons_of_mem _ m), serves⟩
  · rcases List.mem_cons.mp m with rfl | m
    · exact state.elim notOffered notTalking
    · exact hb m
  · by_cases e : b = a
    · rw [e]; exact held f
    · exact h.fields f b fun m => (List.mem_cons.mp m).elim e hb

/-! ### Pairs -/

/-- A call and the agent that serves it are taken aside together. -/
theorem setAside_pair (h : s.AgreesBut F O K A) {k : CallId} {a : AgentId} (serves : s.Serves k a) :
    s.AgreesBut F O (k :: K) (a :: A) := by
  have unlisted := serves.not_queued
  have unready := serves.not_ready
  refine ⟨h.listNodup, fun q j => ?_, h.readyNodup, fun b => ?_, h.readyOrder, fun j hj state => ?_,
    fun b hb state => ?_, fun f b hb => h.fields f b fun m => hb (List.mem_cons_of_mem _ m), h.ordered⟩
  · rw [h.listed, List.mem_cons, not_or]
    exact ⟨fun ⟨hj, queued⟩ => ⟨⟨fun e => unlisted (e ▸ queued.1), hj⟩, queued⟩, fun ⟨⟨_, hj⟩, queued⟩ => ⟨hj, queued⟩⟩
  · rw [h.ready, List.mem_cons, not_or]
    exact ⟨fun ⟨hb, state⟩ => ⟨⟨fun e => unready (e ▸ state), hb⟩, state⟩, fun ⟨⟨_, hb⟩, state⟩ => ⟨hb, state⟩⟩
  · rw [List.mem_cons, not_or] at hj
    obtain ⟨b, hb, other⟩ := h.served j hj.2 state
    exact ⟨b, fun m => (List.mem_cons.mp m).elim (fun e => hj.1 ((e ▸ other).call_unique serves)) hb, other⟩
  · rw [List.mem_cons, not_or] at hb
    obtain ⟨j, hj, other⟩ := h.serving b hb.2 state
    exact ⟨j, fun m => (List.mem_cons.mp m).elim (fun e => hb.1 ((e ▸ other).agent_unique serves)) hj, other⟩

/-- A call and an agent that stood aside are a pair. -/
theorem putBack_pair {k : CallId} {a : AgentId} (h : s.AgreesBut F O (k :: K) (a :: A)) (hk : k ∉ K) (ha : a ∉ A)
    (serves : s.Serves k a) (held : F → (s.agent a).FieldsHeld) : s.AgreesBut F O K A := by
  have unlisted := serves.not_queued
  have unready := serves.not_ready
  refine ⟨h.listNodup, fun q j => ?_, h.readyNodup, fun b => ?_, h.readyOrder, fun j hj state => ?_,
    fun b hb state => ?_, fun f b hb => ?_, h.ordered⟩
  · rw [h.listed, List.mem_cons, not_or]
    exact ⟨fun ⟨⟨_, hj⟩, queued⟩ => ⟨hj, queued⟩, fun ⟨hj, queued⟩ => ⟨⟨fun e => unlisted (e ▸ queued.1), hj⟩, queued⟩⟩
  · rw [h.ready, List.mem_cons, not_or]
    exact ⟨fun ⟨⟨_, hb⟩, state⟩ => ⟨hb, state⟩, fun ⟨hb, state⟩ => ⟨⟨fun e => unready (e ▸ state), hb⟩, state⟩⟩
  · by_cases e : j = k
    · exact ⟨a, ha, e ▸ serves⟩
    · obtain ⟨b, hb, other⟩ := h.served j (fun m => (List.mem_cons.mp m).elim e hj) state
      exact ⟨b, fun m => hb (List.mem_cons_of_mem _ m), other⟩
  · by_cases e : b = a
    · exact ⟨k, hk, e ▸ serves⟩
    · obtain ⟨j, hj, other⟩ := h.serving b (fun m => (List.mem_cons.mp m).elim e hb) state
      exact ⟨j, fun m => hj (List.mem_cons_of_mem _ m), other⟩
  · by_cases e : b = a
    · rw [e]; exact held f
    · exact h.fields f b fun m => (List.mem_cons.mp m).elim e hb

end State.AgreesBut

end

end Sys2Proof.Machine
end

section
/-! PROOFS. The operations that move calls and agents keep the agreement of the records: offers and sweeps, queue
selection, joins and departures, wraps, answers and the freeing of a slot (chapters 2 to 5). -/

namespace Sys2Proof.Machine

theorem Agent.fieldsHeld_of_clear {g : Agent} (away : g.state ≠ .AWAY → g.awayReason = 0)
    (wrap : g.wrapQueue = 0 ∧ g.wrapTalk = 0 ∧ g.wrapStart = 0 ∧ g.wrapDeadline = ⟨0, false⟩ ∧ g.wrapLimit = 0)
    (pending : g.pending = .NONE) (call : g.call = none) : g.FieldsHeld :=
  ⟨away, fun _ => wrap, fun _ _ => pending, fun _ _ => call⟩

section
variable {F O : Prop} {K : List CallId} {A : List AgentId} {s t : State}

theorem State.setCall_aside {k : CallId} (c : Call) : State.SameKeys (k :: K) A s (s.setCall k c) :=
  State.setCall_sameKeys fun h => absurd List.mem_cons_self h

theorem State.setAgent_aside {a : AgentId} (g : Agent) : State.SameKeys K (a :: A) s (s.setAgent a g) :=
  State.setAgent_sameKeys fun h => absurd List.mem_cons_self h

theorem State.count_sameKeys (q : QueueId) (f : QueueCounters → QueueCounters) :
    State.SameKeys K A s (s.count q f) := State.setQueue_sameKeys rfl rfl

theorem State.leaveBacklog_sameKeys (r : RecordRef) : State.SameKeys K A s (s.leaveBacklog r) :=
  State.sameKeys_of_tables rfl rfl rfl rfl

theorem State.countMove_aside {k : CallId} : State.SameKeys (k :: K) A s (s.countMove k) := State.setCall_aside _

theorem State.SameKeys.trans {u : State} (h : State.SameKeys K A s t) (h' : State.SameKeys K A t u) :
    State.SameKeys K A s u where
  waiting q := (h'.waiting q).trans (h.waiting q)
  boost q := (h'.boost q).trans (h.boost q)
  ready := h'.ready.trans h.ready
  calls k hk := (h.calls k hk).trans (h'.calls k hk)
  agents a ha := (h.agents a ha).trans (h'.agents a ha)

theorem State.markMoved_aside {k : CallId} (old : QueueId) : State.SameKeys (k :: K) A s (s.markMoved k old) :=
  (State.setCall_aside _).trans (State.markCall_sameKeys k .MOVED)

namespace State.AgreesBut

/-! ### Offers -/

/-- An offer of a waiting call to a READY agent (R75, R76). -/
theorem offer (h : s.AgreesBut F O K A) {q : QueueId} {k : CallId} {a : AgentId} (hk : k ∈ (s.queue q).waiting)
    (ha : a ∈ s.readyList) : (s.offer q k a).AgreesBut F O K A := by
  obtain ⟨outside, ready⟩ := (h.ready a).mp ha
  have aside := (((h.leaveList hk).congr (State.setCall_aside
    { s.call k with
      state := .OFFERED, agent := some a, savedReadySince := some (s.agent a).readySince, offerPosted := false
      offerDeadline := none })).leaveReady ha).congr
    (State.setAgent_aside ((s.agent a).offeredCall (s.handle k) s.now))
  refine (aside.putBack_pair ((h.listed q k).mp hk).1 outside ?_ fun f => ?_).congr ?_
  · exact ⟨⟨by simp [State.leaveReady], by simp [State.handle, State.leaveReady, Agent.offeredCall]⟩,
      .inl ⟨by simp [State.leaveReady], by simp [Agent.offeredCall]⟩⟩
  · have held := h.fields f a outside
    rw [State.agent_setAgent, if_pos rfl]
    exact ⟨fun _ => held.away (by rw [ready]; decide), fun _ => held.wrap (by rw [ready]; decide),
      fun _ _ => held.pending (by rw [ready]; decide) (by rw [ready]; decide), fun no => absurd rfl no⟩
  · convert State.markCall_sameKeys k .OFFER using 1
    simp [State.offer, Agent.offeredCall, State.leaveReady, State.handle, State.leaveList]

/-- A sweep (R68). -/
theorem sweep (h : s.AgreesBut F O K A) (q : QueueId) : (s.sweep q).AgreesBut F O K A :=
  State.sweep_induct (State.AgreesBut F O K A) q (fun t _ _ _ ht head chosen =>
    ht.offer (head ▸ List.mem_cons_self) (t.chooseAgent_mem q _ chosen).1) s h

/-- Queue selection for a READY agent (R71). -/
theorem select (h : s.AgreesBut F O K A) {a : AgentId} (ha : a ∈ s.readyList) : (s.select a).AgreesBut F O K A := by
  rcases s.select_cases a with same | ⟨q, k, rest, -, head, offered⟩
  · rw [same]; exact h
  · rw [offered]
    exact h.offer (head ▸ List.mem_cons_self) ha

/-- An agent that stood aside enters READY (R51). -/
theorem enterReady {a : AgentId} (h : s.AgreesBut F O K (a :: A)) (ha : a ∉ A) (since : Nat)
    (wrap : F → (s.agent a).wrapQueue = 0 ∧ (s.agent a).wrapTalk = 0 ∧ (s.agent a).wrapStart = 0 ∧
      (s.agent a).wrapDeadline = ⟨0, false⟩ ∧ (s.agent a).wrapLimit = 0)
    (clear : F → (s.agent a).pending = .NONE ∧ (s.agent a).call = none) :
    (s.enterReady a since).AgreesBut F O K A := by
  have written := h.congr (State.setAgent_aside
    { s.agent a with state := .READY, readySince := since, awayReason := 0, stateEntry := s.now })
  have joined := written.joinReady ha (by simp) fun f => by
    rw [State.agent_setAgent, if_pos rfl]
    exact Agent.fieldsHeld_of_clear (fun _ => rfl) (wrap f) (clear f).1 (clear f).2
  exact joined.select ((insertWhere_perm _ _ _).mem_iff.mpr List.mem_cons_self)

/-! ### Joins and departures -/

/-- A call that stood aside joins a queue (R25 to R27). -/
theorem join {k : CallId} (h : s.AgreesBut F O (k :: K) A) (hk : k ∉ K) (q : QueueId) :
    (s.join k q).AgreesBut F O K A := by
  have written := h.congr (State.setCall_aside (s.joinedCall k q))
  have numbered : ∀ u : State, u.AgreesBut F O (k :: K) A → (u.setJoinSeq (satAdd s.joinSeq 1)).AgreesBut F O (k :: K) A :=
    fun u hu => hu.congr (State.sameKeys_of_tables rfl rfl rfl rfl)
  exact ((numbered _ written).congr (State.count_sameKeys q .addEntered)).enterList hk
    (by simp [State.count, State.joinedCall]) (by simp [State.count, State.joinedCall])

/-- A join settles (R29). -/
theorem settleJoin (h : s.AgreesBut F O K A) (k : CallId) (q : QueueId) : (s.settleJoin k q).AgreesBut F O K A := by
  have swept := h.sweep q
  unfold State.settleJoin
  dsimp only
  split
  · exact swept.congr (State.beginTreatment_only _ k).sameKeys
  · exact swept

/-- A QUEUED call departs from its queue (R35). -/
theorem departQueue (h : s.AgreesBut F O K A) {k : CallId} (hk : k ∈ (s.queue (s.call k).queue).waiting)
    (overflow : Bool) : (s.departQueue k overflow).AgreesBut F O (k :: K) A := by
  have only := s.endTreatment_only k
  have left := (h.congr only.sameKeys).leaveList (q := (s.call k).queue) (k := k) (by rw [only.queue]; exact hk)
  exact left.congr (State.count_sameKeys (s.call k).queue (·.addMovedOut overflow))

/-- A call that stands aside departs from its queue (R39, R85). -/
theorem departQueue_aside {k : CallId} (h : s.AgreesBut F O (k :: K) A) (overflow : Bool) :
    (s.departQueue k overflow).AgreesBut F O (k :: K) A := by
  have ended := h.congr (s.endTreatment_only k).sameKeys
  unfold State.departQueue
  dsimp only
  rw [State.leaveList_absent _ _ _ fun m => ((ended.listed _ k).mp m).1 List.mem_cons_self]
  exact ended.congr (State.count_sameKeys (s.call k).queue (·.addMovedOut overflow))

/-- The call that has departed at an overflow joins the target (R39). -/
theorem overflowMove {k : CallId} {target : QueueId} (h : (s.departQueue k true).AgreesBut F O (k :: K) A)
    (hk : k ∉ K) : (s.overflowMove k target).AgreesBut F O K A := by
  have marked := (h.congr State.countMove_aside).congr (State.markMoved_aside (s.call k).queue)
  exact (marked.join hk target).settleJoin k target

/-- The move of a QUEUED call (R35). -/
theorem moveQueued (h : s.AgreesBut F O K A) {k : CallId} (hk : k ∈ (s.queue (s.call k).queue).waiting) (q : QueueId) :
    (s.moveQueued k q).AgreesBut F O K A := by
  have departed := (h.departQueue hk false).congr State.countMove_aside
  exact (departed.join ((h.listed _ k).mp hk).1 q).settleJoin k q

/-- The call's part of a transfer (R36). -/
theorem requeue {k : CallId} (h : s.AgreesBut F O (k :: K) A) (hk : k ∉ K) (q : QueueId) :
    (s.requeue k q).AgreesBut F O K A :=
  (((h.congr (State.setCall_aside _)).congr State.countMove_aside).join hk q).settleJoin k q

/-- A walk counts refusals alone (R9 to R11). -/
theorem walk (h : s.AgreesBut F O K A) (visited : List QueueId) (q : QueueId) :
    (s.walk visited q).1.AgreesBut F O K A := h.congr (State.walkBy_only 4 visited q s).sameKeys

/-- A call made in a FREE slot (R29). -/
theorem arrive (h : s.AgreesBut F O K A) {k : CallId} (hk : k ∉ K) (free : (s.call k).state = .FREE) (q : QueueId)
    (callerTag : Word) (cls : Nat) : (s.arrive k q callerTag cls).AgreesBut F O K A :=
  (((h.setAside_free free).congr (State.setCall_aside _)).join hk q).settleJoin k q

/-! ### Wraps -/

/-- The agent of a call that ends or is transferred enters WRAP (R92). -/
theorem enterWrap {a : AgentId} (h : s.AgreesBut F O K (a :: A)) (away : F → (s.agent a).awayReason = 0) (q : QueueId)
    (talk : Nat) : (s.enterWrap a q talk).AgreesBut F O K A := by
  refine (h.congr (State.setAgent_aside _)).putBack_apart ?_ fun f => ?_
  · rw [State.agent_setAgent, if_pos rfl]
    exact ⟨nofun, nofun, nofun⟩
  · rw [State.agent_setAgent, if_pos rfl]
    exact ⟨fun _ => away f, fun no => absurd rfl no, fun _ no => absurd rfl no, fun _ _ => rfl⟩

/-- The mark of an expiry (R102). -/
theorem marksExpiry (h : s.AgreesBut F O K A) (a : AgentId) (expiry : Bool) :
    (if expiry then s.markAgent a else s).AgreesBut F O K A := by
  split
  · exact h.congr (State.markAgent_sameKeys a)
  · exact h

/-- A wrap ends, its pending applied (R99 to R102). -/
theorem endWrap (h : s.AgreesBut F O K A) {a : AgentId} (ha : a ∉ A) (wrap : (s.agent a).state = .WRAP)
    (expiry : Bool) : (s.endWrap a expiry).AgreesBut F O K A := by
  have held : F → (s.agent a).awayReason = 0 ∧ (s.agent a).call = none := fun f =>
    ⟨(h.fields f a ha).away (by rw [wrap]; decide), (h.fields f a ha).call (by rw [wrap]; decide) (by rw [wrap]; decide)⟩
  have apart : (s.agent a).Apart := by unfold Agent.Apart; rw [wrap]; decide
  obtain ⟨u, hu, ends⟩ := s.endWrap_cases a expiry
  have aside : u.AgreesBut F O K (a :: A) := by
    rw [hu]
    refine State.AgreesBut.congr (State.AgreesBut.congr (h.setAside_apart apart) ?_) (State.setAgent_aside _)
    rw [State.countWrap_eq]
    exact State.setQueue_sameKeys rfl rfl
  have agent : u.agent a = (s.agent a).wrapped s.now := by rw [hu, State.agent_setAgent, if_pos rfl]; rfl
  rw [ends]
  split
  case h_1 =>
    have marked := aside.marksExpiry a expiry
    have kept : ∃ mark, (if expiry then u.markAgent a else u).agent a = { u.agent a with mark := mark } := by
      cases expiry
      · exact ⟨_, rfl⟩
      · exact ⟨true, by simp [State.markAgent_agent]⟩
    obtain ⟨mark, kept⟩ := kept
    refine marked.enterReady ha s.now (fun _ => ?_) fun f => ?_
    · rw [kept, agent]; exact ⟨rfl, rfl, rfl, rfl, rfl⟩
    · rw [kept, agent]; exact ⟨rfl, (held f).2⟩
  case h_2 r _ =>
    refine State.AgreesBut.marksExpiry ((aside.congr (State.setAgent_aside _)).putBack_apart ?_ fun f => ?_) a expiry
    · rw [State.agent_setAgent, if_pos rfl]; exact ⟨nofun, nofun, nofun⟩
    · rw [State.agent_setAgent, if_pos rfl, agent]
      exact Agent.fieldsHeld_of_clear (fun no => absurd rfl no) ⟨rfl, rfl, rfl, rfl, rfl⟩ rfl (held f).2
  case h_3 =>
    refine State.AgreesBut.marksExpiry ((aside.congr (State.setAgent_aside _)).putBack_apart ?_ fun f => ?_) a expiry
    · rw [State.agent_setAgent, if_pos rfl]; exact ⟨nofun, nofun, nofun⟩
    · rw [State.agent_setAgent, if_pos rfl, agent]
      exact Agent.fieldsHeld_of_clear (fun _ => (held f).1) ⟨rfl, rfl, rfl, rfl, rfl⟩ rfl (held f).2

/-- A wrap ends at once where its queue has no wrap base (R95). -/
theorem endWrapAtEntry (h : s.AgreesBut F O K A) {a : AgentId} (ha : a ∉ A) (wrap : (s.agent a).state = .WRAP)
    (q : QueueId) : (s.endWrapAtEntry a q).AgreesBut F O K A := by
  unfold State.endWrapAtEntry
  split
  · exact h.endWrap ha wrap true
  · exact h

/-! ### Endings of calls -/

/-- A slot that stands aside is freed (R30). -/
theorem freeCall {k : CallId} (h : s.AgreesBut F O (k :: K) A) : (s.freeCall k).AgreesBut F O K A := by
  have released := h.congr (s.releasePlayer_only k).sameKeys
  have left : ∀ q, (s.releasePlayer k).leaveList q k = s.releasePlayer k := fun q =>
    State.leaveList_absent _ _ _ fun m => ((released.listed _ k).mp m).1 List.mem_cons_self
  have dropped := (released.congr (State.setCall_aside
    { (s.releasePlayer k).call k with marks := .empty, movedFrom := none, withdrawnAgent := none })).congr
    (State.leaveBacklog_sameKeys (.call k))
  unfold State.freeCall
  simp only [left, ite_self]
  exact (dropped.congr (State.setCall_aside _)).putBack_free (by simp [Call.free])

/-- A QUEUED call's slot is freed (R30). -/
theorem freeCall_queued (h : s.AgreesBut F O K A) {k : CallId} (hk : k ∈ (s.queue (s.call k).queue).waiting) :
    (s.freeCall k).AgreesBut F O K A := by
  have only := s.releasePlayer_only k
  have call : (s.releasePlayer k).call k = { s.call k with poolPlayer := none } := by
    rw [State.releasePlayer_call, if_pos rfl]
  have queued : ((s.releasePlayer k).call k).state = .QUEUED := by rw [call]; exact ((h.listed _ k).mp hk).2.1
  have left := (h.congr only.sameKeys).leaveList (q := ((s.releasePlayer k).call k).queue) (k := k)
    (by rw [only.queue, call]; exact hk)
  unfold State.freeCall
  simp only [queued, if_true]
  exact (((left.congr (State.setCall_aside _)).congr (State.leaveBacklog_sameKeys (.call k))).congr
    (State.setCall_aside _)).putBack_free (by simp [Call.free])

/-- An abandonment counted (R31, R32). -/
theorem countAbandoned (h : s.AgreesBut F O K A) (k : CallId) : (s.countAbandoned k).AgreesBut F O K A :=
  h.congr (State.count_sameKeys (s.call k).queue
    (·.addAbandoned (decide (s.rawWait k < (s.queue (s.call k).queue).params.shortAbandon))))

end State.AgreesBut

end

end Sys2Proof.Machine
end

section
/-! PROOFS. Answers, transfers, withdrawals, classes, definitions and the changes of agents keep the agreement of the
records (chapters 1 to 5). -/

namespace Sys2Proof.Machine

/-- The freeing of a slot touches a waiting list, the calls, the pool and the backlog alone (R30). -/
theorem State.freeCall_rest (s : State) (k : CallId) : s.freeCall k = { s with
    queues := (s.freeCall k).queues, calls := (s.freeCall k).calls
    treatment := { s.treatment with pool := (s.freeCall k).treatment.pool }
    notices := { s.notices with backlog := (s.freeCall k).notices.backlog } } := by
  have rest := (s.releasePlayer_only k).rest
  unfold State.freeCall
  dsimp only
  generalize s.releasePlayer k = u at rest
  rw [rest]
  split <;> rfl

theorem State.freeCall_agent (s : State) (k : CallId) (a : AgentId) : (s.freeCall k).agent a = s.agent a := by
  rw [State.freeCall_rest]
  rfl

section
variable {F O : Prop} {K : List CallId} {A : List AgentId} {s t : State}

/-- The call connected to its agent, before the answer is counted (R81). -/
def State.connectedPair (s : State) (k : CallId) (a : AgentId) : State :=
  let u := (s.releasePlayer k).setCall k (((s.releasePlayer k).call k).answered (s.releasePlayer k).now)
  let v := if (u.call k).marks.isEmpty then u.leaveBacklog (.call k) else u
  v.setAgent a { v.agent a with state := .TALKING, stateEntry := v.now }

theorem State.answer_eq (s : State) (k : CallId) (a : AgentId) :
    s.answer k a = (s.connectedPair k a).count (s.call k).queue (·.addAnswered (decide (s.rawWait k ≤
      ((s.connectedPair k a).queue (s.call k).queue).params.serviceTarget)) (s.rawWait k)) := rfl

theorem State.connectedPair_call (s : State) (k : CallId) (a : AgentId) :
    (s.connectedPair k a).call k = ({ s.call k with poolPlayer := none } : Call).answered s.now := by
  have now : (s.releasePlayer k).now = s.now := by rw [(s.releasePlayer_only k).rest]; rfl
  unfold State.connectedPair
  dsimp only
  split <;> simp [State.leaveBacklog, State.releasePlayer_call, now]

theorem State.connectedPair_agent (s : State) (k : CallId) (a : AgentId) :
    (s.connectedPair k a).agent a = { s.agent a with state := .TALKING, stateEntry := s.now } := by
  have agent : (s.releasePlayer k).agent a = s.agent a := by rw [(s.releasePlayer_only k).rest]; rfl
  have now : (s.releasePlayer k).now = s.now := by rw [(s.releasePlayer_only k).rest]; rfl
  unfold State.connectedPair
  dsimp only
  split <;> simp [State.leaveBacklog, agent, now]

namespace State.AgreesBut

/-! ### Answers and transfers -/

/-- The pair of an OFFERED or CONNECTED call is the agent in its record. -/
theorem serves_of (h : s.AgreesBut F O K A) {k : CallId} (hk : k ∉ K)
    (state : (s.call k).state = .OFFERED ∨ (s.call k).state = .CONNECTED) :
    ∃ a ∉ A, (s.call k).agent = some a ∧ s.Serves k a := by
  obtain ⟨a, ha, serves⟩ := h.served k hk state
  exact ⟨a, ha, serves.1.1, serves⟩

theorem answer (h : s.AgreesBut F O K A) {k : CallId} {a : AgentId} (hk : k ∉ K)
    (offered : (s.call k).state = .OFFERED) (toAgent : (s.call k).agent = some a) :
    (s.answer k a).AgreesBut F O K A := by
  obtain ⟨b, ha, named, serves⟩ := h.serves_of hk (.inl offered)
  obtain rfl : b = a := Option.some.inj (named.symm.trans toAgent)
  have gState : (s.agent b).state = .OFFERED := by simpa [offered] using serves.states
  have released := (h.setAside_pair serves).congr (s.releasePlayer_only k).sameKeys
  have connected : (s.connectedPair k b).AgreesBut F O (k :: K) (b :: A) := by
    have written := fun c => released.congr (State.setCall_aside c)
    unfold State.connectedPair
    dsimp only
    split
    · exact ((written _).congr (State.leaveBacklog_sameKeys _)).congr (State.setAgent_aside _)
    · exact (written _).congr (State.setAgent_aside _)
  refine (connected.putBack_pair hk ha ?_ fun f => ?_).congr (State.count_sameKeys (s.call k).queue
    (·.addAnswered (decide (s.rawWait k ≤ ((s.connectedPair k b).queue (s.call k).queue).params.serviceTarget))
      (s.rawWait k)))
  · refine ⟨⟨?_, ?_⟩, .inr ⟨?_, ?_, ?_⟩⟩
    · rw [s.connectedPair_call]; exact toAgent
    · rw [s.connectedPair_agent, State.handle, s.connectedPair_call]; exact serves.1.2
    · rw [s.connectedPair_call]; rfl
    · rw [s.connectedPair_agent]
    · rw [s.connectedPair_call]; nofun
  · have held := h.fields f b ha
    rw [s.connectedPair_agent]
    exact ⟨fun _ => held.away (by rw [gState]; decide), fun _ => held.wrap (by rw [gState]; decide),
      fun no => absurd rfl no, fun _ no => absurd rfl no⟩

/-- A join that settles leaves an agent that stands aside. -/
theorem settled_agent {k : CallId} {a : AgentId} (h : s.AgreesBut F O (k :: K) (a :: A)) (q : QueueId) :
    ((s.join k q).settleJoin k q).agent a = s.agent a :=
  ((State.settles h.readyNodup (h.listNodup q) fun m => ((h.listed q k).mp m).1 List.mem_cons_self).unready a
    fun m => ((h.ready a).mp m).1 List.mem_cons_self).1

/-- A transfer of a CONNECTED call (R36). -/
theorem transfer (h : s.AgreesBut F O K A) {k : CallId} (hk : k ∉ K) (connected : (s.call k).state = .CONNECTED)
    (q r : QueueId) (talk : Nat) :
    ((s.requeue k q).wrapTransfer (s.call k).agent r talk).AgreesBut F O K A := by
  obtain ⟨a, ha, toAgent, serves⟩ := h.serves_of hk (.inr connected)
  have talking : (s.agent a).state = .TALKING := by
    have states := serves.states
    rw [connected] at states
    exact (states.resolve_left nofun).2.1
  have aside := h.setAside_pair serves
  have queued := aside.requeue hk q
  have untouched : (s.requeue k q).agent a = s.agent a := by
    refine State.AgreesBut.settled_agent (F := F) (O := O) (K := K) (A := A) ?_ q
    exact (aside.congr (State.setCall_aside _)).congr State.countMove_aside
  rw [toAgent]
  refine (queued.enterWrap (fun f => ?_) r talk).endWrapAtEntry ha ?_ r
  · rw [untouched]
    exact (h.fields f a ha).away (by rw [talking]; decide)
  · rw [State.enterWrap, State.agent_setAgent, if_pos rfl]

/-- An accepted C_MOVE (R35, R36). -/
theorem moveTo (h : s.AgreesBut F O K A) {k : CallId} (hk : k ∉ K) (q : QueueId)
    (state : (s.call k).state = .QUEUED ∨ (s.call k).state = .CONNECTED) : (s.moveTo k q).AgreesBut F O K A := by
  unfold State.moveTo
  dsimp only
  split
  case isTrue queued => exact h.moveQueued ((h.listed _ k).mpr ⟨hk, queued, rfl⟩) q
  case isFalse other => exact h.transfer hk (state.resolve_left other) q _ _

/-! ### Endings -/

/-- A C_END during an offer, whose agent returns to READY (R32, R88). -/
theorem abandonOffer (h : s.AgreesBut F O K A) {k : CallId} {a : AgentId} (hk : k ∉ K)
    (offered : (s.call k).state = .OFFERED) (toAgent : (s.call k).agent = some a) (since : Nat) :
    (((s.countAbandoned k).freeCall k).returnAgent a since).AgreesBut F O K A := by
  obtain ⟨b, ha, named, serves⟩ := h.serves_of hk (.inl offered)
  obtain rfl : b = a := Option.some.inj (named.symm.trans toAgent)
  have state : (s.agent b).state = .OFFERED := by simpa [offered] using serves.states
  have freed := ((h.setAside_pair serves).countAbandoned k).freeCall
  have same : ((s.countAbandoned k).freeCall k).agent b = s.agent b := by rw [State.freeCall_agent]; rfl
  refine (freed.congr (State.setAgent_aside _)).enterReady ha since (fun f => ?_) fun f => ?_
  · rw [State.agent_setAgent, if_pos rfl, same]
    exact (h.fields f b ha).wrap (by rw [state]; decide)
  · rw [State.agent_setAgent, if_pos rfl, same]
    exact ⟨(h.fields f b ha).pending (by rw [state]; decide) (by rw [state]; decide), rfl⟩

/-- A C_END of a CONNECTED call, whose agent enters WRAP and leaves it where there is no wrap base (R33, R92, R95). -/
theorem complete (h : s.AgreesBut F O K A) {k : CallId} {a : AgentId} (hk : k ∉ K)
    (connected : (s.call k).state = .CONNECTED) (toAgent : (s.call k).agent = some a) (q : QueueId) (talk : Nat) :
    (((s.enterWrap a q talk).freeCall k).endWrapAtEntry a q).AgreesBut F O K A := by
  obtain ⟨b, ha, named, serves⟩ := h.serves_of hk (.inr connected)
  obtain rfl : b = a := Option.some.inj (named.symm.trans toAgent)
  have states := serves.states
  rw [connected] at states
  have talking := (states.resolve_left nofun).2.1
  have wrapping := (h.setAside_pair serves).enterWrap
    (fun f => (h.fields f b ha).away (by rw [talking]; decide)) q talk
  refine wrapping.freeCall.endWrapAtEntry ha ?_ q
  rw [State.freeCall_agent, State.enterWrap, State.agent_setAgent, if_pos rfl]

end State.AgreesBut
end
end Sys2Proof.Machine
end

section
/-! PROOFS. Expired offers, overflow, classes and definitions keep the agreement of the records (chapters 1, 2 and 4). -/

namespace Sys2Proof.Machine

section
variable {F O : Prop} {K : List CallId} {A : List AgentId} {s t : State}

theorem Agent.apart_of {g : Agent} (h : g.state = .AWAY ∨ g.state = .LOGGED_OUT ∨ g.state = .WRAP) : g.Apart := by
  unfold Agent.Apart
  rcases h with e | e | e <;> rw [e] <;> decide

/-- Keys compare alike where effective entry times and join sequences are the same (R25). -/
theorem notAfter_eq {boost : Nat} {a a' b b' : Call} (ha : a'.effectiveEntry boost = a.effectiveEntry boost)
    (hb : b'.effectiveEntry boost = b.effectiveEntry boost) (ja : a'.joinSeq = a.joinSeq) (jb : b'.joinSeq = b.joinSeq) :
    notAfter boost a' b' = notAfter boost a b := by
  unfold notAfter
  rw [ha, hb, ja, jb]

/-- A Q_DEFINE changes no key of a call (R16 to R18). -/
theorem Call.redefined_samePlace (c : Call) (old new : QueueParams) (listed : Bool) (now : Nat) :
    c.SamePlace (c.redefined old new listed now) :=
  (Call.samePlace_of rfl).trans (c.redefined_same old new listed now).samePlace

/-- A new class changes no key of a call but its place (R37). -/
theorem State.recls_sameKeys (s : State) (k : CallId) (cls : Nat) (j : CallId) :
    (s.call j).SameKeys ((s.setCall k { s.call k with cls := cls }).call j) := by
  rw [State.call_setCall]
  split
  case isTrue e => subst e; exact ⟨rfl, rfl, rfl, rfl, rfl⟩
  case isFalse => exact (Call.SamePlace.refl _).toSameKeys

namespace State.AgreesBut

/-! ### Expired offers and overflow -/

/-- An agent that stands aside is written back in no list and no pair. -/
theorem writeApart {a : AgentId} {g : Agent} (h : s.AgreesBut F O K (a :: A)) (apart : g.Apart)
    (held : F → g.FieldsHeld) : (s.setAgent a g).AgreesBut F O K A := by
  refine (h.congr (State.setAgent_aside g)).putBack_apart ?_ fun f => ?_
  · rwa [State.agent_setAgent, if_pos rfl]
  · rw [State.agent_setAgent, if_pos rfl]
    exact held f

/-- The agent of an expired offer, standing aside, goes AWAY (R83). -/
theorem releaseAgent {a : AgentId} (h : s.AgreesBut F O K (a :: A)) (offered : (s.agent a).state = .OFFERED)
    (held : F → (s.agent a).FieldsHeld) : (s.releaseAgent a).AgreesBut F O K A := by
  refine (h.writeApart (Agent.apart_of (.inl ?_)) fun f => ?_).congr (State.markAgent_sameKeys a)
  · rfl
  · exact Agent.fieldsHeld_of_clear (fun no => absurd rfl no) ((held f).wrap (by rw [offered]; decide))
      ((held f).pending (by rw [offered]; decide) (by rw [offered]; decide)) rfl

/-- The call of an expired offer, standing aside (R83). -/
theorem withdraw {k : CallId} (h : s.AgreesBut F O (k :: K) A) (a : AgentId) :
    (s.withdraw k a).AgreesBut F O (k :: K) A :=
  (h.congr (State.setCall_aside _)).congr (State.markCall_sameKeys k .WITHDRAW)

/-- A call that stands aside returns to its queue (R86). -/
theorem returnCall {k : CallId} (h : s.AgreesBut F O (k :: K) A) (hk : k ∉ K) :
    (s.returnCall k).AgreesBut F O K A := by
  have returned := (h.congr (State.setCall_aside { s.call k with state := .QUEUED, overflowDue := false })).enterList
    (q := (s.call k).queue) hk (by simp) (by simp)
  unfold State.returnCall
  dsimp only
  refine State.AgreesBut.sweep ?_ _
  split
  · exact returned.congr (State.beginTreatment_only _ k).sameKeys
  · exact returned

/-- What becomes of a withdrawn call (R84, R85). -/
theorem settleWithdrawn {k : CallId} (h : s.AgreesBut F O (k :: K) A) (hk : k ∉ K) :
    (s.settleWithdrawn k).AgreesBut F O K A := by
  unfold State.settleWithdrawn
  dsimp only
  split
  case isFalse => exact h.returnCall hk
  case isTrue =>
    split
    case h_2 => exact h.returnCall hk
    case h_1 q _ =>
      split
      · exact (h.departQueue_aside true).overflowMove hk
      · exact State.AgreesBut.returnCall ((h.congr (s.divert_only q).sameKeys).congr (State.setCall_aside _)) hk

/-- The expiry of an offer, before its drain (R83 to R86). -/
theorem expire (h : s.AgreesBut F O K A) {k : CallId} {a : AgentId} (hk : k ∉ K)
    (offered : (s.call k).state = .OFFERED) (toAgent : (s.call k).agent = some a) :
    (((s.releaseAgent a).withdraw k a).settleWithdrawn k).AgreesBut F O K A := by
  obtain ⟨b, ha, named, serves⟩ := h.serves_of hk (.inl offered)
  obtain rfl : b = a := Option.some.inj (named.symm.trans toAgent)
  have state : (s.agent b).state = .OFFERED := by simpa [offered] using serves.states
  exact (((h.setAside_pair serves).releaseAgent state fun f => h.fields f b ha).withdraw b).settleWithdrawn hk

/-- The overflow attempt of a QUEUED call (R39, R40). -/
theorem overflowAttempt (h : s.AgreesBut F O K A) {k : CallId} (hk : k ∉ K) (queued : (s.call k).state = .QUEUED) :
    (s.overflowAttempt k).AgreesBut F O K A := by
  unfold State.overflowAttempt
  split
  case h_2 => exact h
  case h_1 q _ =>
    split
    · exact (h.departQueue ((h.listed _ k).mpr ⟨hk, queued, rfl⟩) true).overflowMove hk
    · exact (h.congr (s.divert_only q).sameKeys).congr (State.setCall_sameKeys fun _ => Call.samePlace_of rfl)

/-! ### Classes -/

/-- A new class leaves the lists in which it changes no key in order (R25, R37). -/
theorem ordered_recls (h : s.AgreesBut F O K A) (o : O) {k : CallId} (cls : Nat) {q : QueueId}
    (keeps : k ∈ (s.queue q).waiting → cls = (s.call k).cls ∨ (s.queue q).params.classBoost = 0) :
    (s.queue q).waiting.Pairwise fun i j => notAfter (s.queue q).params.classBoost
      ((s.setCall k { s.call k with cls := cls }).call i) ((s.setCall k { s.call k with cls := cls }).call j) = true := by
  have key : ∀ j ∈ (s.queue q).waiting,
      ((s.setCall k { s.call k with cls := cls }).call j).effectiveEntry (s.queue q).params.classBoost =
        (s.call j).effectiveEntry (s.queue q).params.classBoost ∧
      ((s.setCall k { s.call k with cls := cls }).call j).joinSeq = (s.call j).joinSeq := fun j hj => by
    rw [State.call_setCall]
    split
    case isFalse => exact ⟨rfl, rfl⟩
    case isTrue e =>
      subst e
      unfold Call.effectiveEntry
      rcases keeps hj with same | none
      · simp only [same, and_self]
      · simp only [none, Nat.mul_zero, and_self]
  refine (h.ordered o q).imp_of_mem fun {i j} hi hj before => ?_
  rw [notAfter_eq (key i hi).1 (key j hj).1 (key i hi).2 (key j hj).2]
  exact before

/-- A new class where it moves no waiting call: another state than QUEUED, the same class, or no class boost (R37). -/
theorem keepPlace (h : s.AgreesBut F O K A) {k : CallId} (cls : Nat)
    (keeps : (s.call k).state = .QUEUED → cls = (s.call k).cls ∨ (s.queue (s.call k).queue).params.classBoost = 0) :
    (s.setCall k { s.call k with cls := cls }).AgreesBut F O K A := by
  refine h.reorder (fun _ => .refl _) rfl (fun j _ => s.recls_sameKeys k cls j) (fun _ _ => .refl _) fun o q => ?_
  refine h.ordered_recls o cls fun hk => ?_
  obtain ⟨_, queued, own⟩ := (h.listed q k).mp hk
  exact own ▸ keeps queued

/-- A new class of a QUEUED call, its list put in order (R37). -/
theorem takePlace (h : s.AgreesBut F O K A) {k : CallId} (cls : Nat) :
    ((s.setCall k { s.call k with cls := cls }).resort (s.call k).queue).AgreesBut F O K A := by
  refine h.reorder (fun q => ?_) rfl (fun j _ => s.recls_sameKeys k cls j) (fun _ _ => .refl _) fun o q => ?_
  · rw [State.resort, State.queue_setWaiting]
    split
    case isTrue e => subst e; exact State.inOrder_perm _ _ _
    case isFalse => exact .refl _
  · rw [State.resort, State.queue_setWaiting]
    split
    case isTrue e => subst e; exact State.inOrder_sorted _ _ _
    case isFalse other => exact h.ordered_recls o cls fun hk => absurd ((h.listed q k).mp hk).2.2 other

/-- A C_CLASS (R37). -/
theorem reclass (h : s.AgreesBut F O K A) (k : CallId) (cls : Nat) : (s.reclass k cls).AgreesBut F O K A := by
  unfold State.reclass
  dsimp only
  split
  case isTrue moves =>
    split
    · exact h.takePlace cls
    · exact (h.takePlace cls).sweep _
  case isFalse stays =>
    refine h.keepPlace cls fun queued => ?_
    by_contra no
    exact stays ⟨queued, not_or.mp no⟩

/-! ### Definitions and modes -/

/-- A Q_DEFINE before its sweep (R14 to R18). -/
theorem redefined (h : s.AgreesBut F O [] []) (q : QueueId) (d : QDefinition) :
    (s.redefined q d).AgreesBut F O [] [] := by
  have agree := h.recordsAgree
  have call : ∀ j, (s.call j).SamePlace ((s.redefined q d).call j) := fun j => by
    rw [State.redefined_call agree]
    split
    · exact Call.redefined_samePlace _ _ _ _ _
    · exact .refl _
  refine h.reorder (fun r => ?_) (s.redefined_readyList q d) (fun j _ => (call j).toSameKeys)
    (fun a _ => by rw [State.redefined_agent]; exact .refl _) fun o r => ?_
  · rw [State.redefined_queue]
    split
    case isTrue e => subst e; exact s.listRedefined_perm q d
    case isFalse => exact .refl _
  · suffices ((s.redefined q d).queue r).waiting.Pairwise fun i j =>
        notAfter ((s.redefined q d).queue r).params.classBoost (s.call i) (s.call j) = true from
      this.imp fun {i j} before => (notAfter_congr _ (call i) (call j)).trans before
    rw [State.redefined_queue]
    split
    case isFalse => exact h.ordered o r
    case isTrue e =>
      subst e
      show (s.listRedefined q d).Pairwise fun i j => notAfter d.params.classBoost (s.call i) (s.call j) = true
      unfold State.listRedefined
      split
      case isTrue same => exact same ▸ h.ordered o q
      case isFalse => exact s.inOrder_sorted _ _

/-- A Q_DEFINE (R14 to R19). -/
theorem define (h : s.AgreesBut F O [] []) (q : QueueId) (d : QDefinition) : (s.define q d).AgreesBut F O [] [] := by
  rw [State.define_eq]
  exact (h.redefined q d).sweep q

/-- A Q_MODE (R6). -/
theorem changeMode (h : s.AgreesBut F O K A) (q : QueueId) (m : QMode) : (s.changeMode q m).AgreesBut F O K A := by
  have written := h.congr (State.setQueue_sameKeys (q := q) (r := { s.queue q with mode := m }) rfl rfl)
  unfold State.changeMode
  dsimp only
  split
  · exact written.sweep q
  · exact written

end State.AgreesBut
end
end Sys2Proof.Machine
end

section
/-! PROOFS. The changes of agents, the reset, and every command keep the agreement of the records. -/

namespace Sys2Proof.Machine

section
variable {F O : Prop} {K : List CallId} {A : List AgentId} {s t : State}

/-! ### Records written in place -/

/-- A change pending is a field of TALKING and WRAP (R61). -/
theorem Agent.sameKeys_pending {g : Agent} (state : g.state = .TALKING ∨ g.state = .WRAP) (p : PendingChange) :
    g.SameKeys { g with pending := p } :=
  ⟨rfl, rfl, rfl, fun f => ⟨f.away, f.wrap, fun noTalk noWrap => absurd state (not_or.mpr ⟨noTalk, noWrap⟩), f.call⟩⟩

/-- A wrap deadline is a field of WRAP (R91). -/
theorem Agent.sameKeys_deadline {g : Agent} (wrap : g.state = .WRAP) (d : Deadline) :
    g.SameKeys { g with wrapDeadline := d } :=
  ⟨rfl, rfl, rfl, fun f => ⟨f.away, fun no => absurd wrap no, f.pending, f.call⟩⟩

/-- An away reason is a field of AWAY (R49). -/
theorem Agent.sameKeys_reason {g : Agent} (away : g.state = .AWAY) (r : Fin 16) :
    g.SameKeys { g with awayReason := r } :=
  ⟨rfl, rfl, rfl, fun f => ⟨fun no => absurd away no, f.wrap, f.pending, f.call⟩⟩

namespace State.AgreesBut

/-- The tables and the ready list are the same. -/
theorem same (h : s.AgreesBut F O K A) (queues : t.queues = s.queues) (calls : t.calls = s.calls)
    (agents : t.agents = s.agents) (ready : t.readyList = s.readyList) : t.AgreesBut F O K A :=
  h.congr (State.sameKeys_of_tables queues calls agents ready)

theorem drain (h : s.AgreesBut F O K A) : s.drain.AgreesBut F O K A := h.congr s.drain_only.sameKeys

theorem setPending (h : s.AgreesBut F O K A) {a : AgentId}
    (state : (s.agent a).state = .TALKING ∨ (s.agent a).state = .WRAP) (p : PendingChange) :
    (s.setPending a p).AgreesBut F O K A :=
  h.congr (State.setAgent_sameKeys fun _ => Agent.sameKeys_pending state p)

theorem countAway (h : s.AgreesBut F O K A) (a : AgentId) : (s.countAway a).AgreesBut F O K A :=
  h.congr (State.setAgent_sameKeys fun _ => Agent.sameKeys_of rfl)

/-! ### Agents between their states -/

/-- An agent that is not in WRAP, standing aside, goes AWAY (R49). -/
theorem enterAway {a : AgentId} (h : s.AgreesBut F O K (a :: A)) (r : Fin 16)
    (clear : F → (s.agent a).FieldsHeld ∧ (s.agent a).pending = .NONE ∧ (s.agent a).call = none)
    (noWrap : (s.agent a).state ≠ .WRAP) : (s.enterAway a r).AgreesBut F O K A := by
  refine h.writeApart (Agent.apart_of (.inl ?_)) fun f => ?_
  · rfl
  · obtain ⟨held, pending, call⟩ := clear f
    exact Agent.fieldsHeld_of_clear (fun no => absurd rfl no) (held.wrap noWrap) pending call

/-- An agent that is not in WRAP, standing aside, is LOGGED_OUT (R60). -/
theorem enterLoggedOut {a : AgentId} (h : s.AgreesBut F O K (a :: A))
    (clear : F → (s.agent a).FieldsHeld ∧ (s.agent a).pending = .NONE ∧ (s.agent a).call = none)
    (noWrap : (s.agent a).state ≠ .WRAP) : (s.enterLoggedOut a).AgreesBut F O K A := by
  refine h.writeApart (Agent.apart_of (.inr (.inl ?_))) fun f => ?_
  · rfl
  · obtain ⟨held, pending, call⟩ := clear f
    exact Agent.fieldsHeld_of_clear (fun _ => rfl) (held.wrap noWrap) pending call

/-- The fields of an agent in none of OFFERED, TALKING and WRAP. -/
theorem clear (h : s.AgreesBut F O K A) {a : AgentId} (ha : a ∉ A)
    (state : (s.agent a).state = .AWAY ∨ (s.agent a).state = .READY ∨ (s.agent a).state = .LOGGED_OUT) (f : F) :
    (s.agent a).FieldsHeld ∧ (s.agent a).pending = .NONE ∧ (s.agent a).call = none := by
  have held := h.fields f a ha
  rcases state with e | e | e <;>
    exact ⟨held, held.pending (by rw [e]; decide) (by rw [e]; decide), held.call (by rw [e]; decide) (by rw [e]; decide)⟩

/-- An accepted A_LOGIN (R55). -/
theorem login (h : s.AgreesBut F O K A) {a : AgentId} (ha : a ∉ A) (out : (s.agent a).state = .LOGGED_OUT)
    (station : Nat) (skills : List Skill) (away : Option (Fin 16)) :
    (s.login a station skills away).AgreesBut F O K A := by
  have aside := (h.setAside_apart (Agent.apart_of (.inr (.inl out)))).congr
    (State.setAgent_aside ((s.agent a).signIn station skills s.now))
  have written : (s.setAgent a ((s.agent a).signIn station skills s.now)).agent a =
      (s.agent a).signIn station skills s.now := by rw [State.agent_setAgent, if_pos rfl]
  have clear := h.clear ha (.inr (.inr out))
  have noWrap : (s.agent a).state ≠ .WRAP := by rw [out]; decide
  unfold State.login
  dsimp only
  split
  · refine aside.enterReady ha _ (fun f => ?_) fun f => ?_
    · rw [written]; exact (clear f).1.wrap noWrap
    · rw [written]; exact ⟨rfl, (clear f).2.2⟩
  · refine aside.enterAway _ (fun f => ?_) ?_
    · rw [written]
      exact ⟨⟨(clear f).1.away, (clear f).1.wrap, fun _ _ => rfl, (clear f).1.call⟩, rfl, (clear f).2.2⟩
    · rw [written]; exact noWrap

/-- An A_LOGOUT (R60). -/
theorem logout (h : s.AgreesBut F O K A) {a : AgentId} (ha : a ∉ A) (some : s.logout a = some t) :
    t.AgreesBut F O K A := by
  unfold State.logout at some
  split at some
  case h_1 => exact nomatch some
  case h_2 away =>
    obtain rfl := Option.some.inj some
    have counted := h.countAway a
    have state : ((s.countAway a).agent a).state = .AWAY := by
      rw [State.countAway, State.agent_setAgent, if_pos rfl]; exact away
    exact (counted.setAside_apart (Agent.apart_of (.inl state))).enterLoggedOut (counted.clear ha (.inl state))
      (by rw [state]; decide)
  case h_3 ready =>
    obtain rfl := Option.some.inj some
    exact (h.leaveReady ((h.ready a).mpr ⟨ha, ready⟩)).enterLoggedOut (h.clear ha (.inr (.inl ready)))
      (by rw [show ((s.leaveReady a).agent a).state = _ from ready]; decide)
  case h_4 => exact nomatch some
  case h_5 talking =>
    obtain rfl := Option.some.inj some
    exact h.setPending (.inl talking) _
  case h_6 wrap =>
    obtain rfl := Option.some.inj some
    exact h.setPending (.inr wrap) _

/-- An A_SET READY (R57 to R59). -/
theorem setReady (h : s.AgreesBut F O K A) {a : AgentId} (ha : a ∉ A) (some : s.setReady a = some t) :
    t.AgreesBut F O K A := by
  unfold State.setReady at some
  split at some
  case h_1 => exact nomatch some
  case h_2 away =>
    obtain rfl := Option.some.inj some
    have counted := h.countAway a
    have state : ((s.countAway a).agent a).state = .AWAY := by
      rw [State.countAway, State.agent_setAgent, if_pos rfl]; exact away
    exact (counted.setAside_apart (Agent.apart_of (.inl state))).enterReady ha _
      (fun f => (counted.fields f a ha).wrap (by rw [state]; decide)) fun f => (counted.clear ha (.inl state) f).2
  case h_3 =>
    obtain rfl := Option.some.inj some
    exact h
  case h_4 => exact nomatch some
  case h_5 talking =>
    obtain rfl := Option.some.inj some
    exact h.setPending (.inl talking) _
  case h_6 wrap =>
    obtain rfl := Option.some.inj some
    refine (h.setPending (.inr wrap) _).endWrap ha ?_ false
    rw [State.setPending, State.agent_setAgent, if_pos rfl]
    exact wrap

/-- An A_SET AWAY (R57 to R59). -/
theorem setAway (h : s.AgreesBut F O K A) {a : AgentId} (ha : a ∉ A) {r : Fin 16} (some : s.setAway a r = some t) :
    t.AgreesBut F O K A := by
  unfold State.setAway at some
  split at some
  case h_1 => exact nomatch some
  case h_2 away =>
    obtain rfl := Option.some.inj some
    exact h.congr (State.setAgent_sameKeys fun _ => Agent.sameKeys_reason away r)
  case h_3 ready =>
    obtain rfl := Option.some.inj some
    exact (h.leaveReady ((h.ready a).mpr ⟨ha, ready⟩)).enterAway r (h.clear ha (.inr (.inl ready)))
      (by rw [show ((s.leaveReady a).agent a).state = _ from ready]; decide)
  case h_4 => exact nomatch some
  case h_5 talking =>
    split at some
    · exact nomatch some
    · obtain rfl := Option.some.inj some
      exact h.setPending (.inl talking) _
  case h_6 wrap =>
    split at some
    · exact nomatch some
    · obtain rfl := Option.some.inj some
      exact h.setPending (.inr wrap) _

/-- An A_SKILLS (R62). -/
theorem reskill (h : s.AgreesBut F O K A) {a : AgentId} (ha : a ∉ A) (skills : List Skill) :
    (s.reskill a skills).AgreesBut F O K A := by
  have written := h.congr (State.setAgent_sameKeys (a := a) (g := { s.agent a with skills := skills })
    fun _ => Agent.sameKeys_of rfl)
  unfold State.reskill
  dsimp only
  split
  case isTrue ready => exact written.select ((written.ready a).mpr ⟨ha, ready⟩)
  case isFalse => exact written

/-! ### Frames -/

/-- The end of a script (R149, R152, R155). -/
theorem endScript (h : s.AgreesBut F O K A) (p : PoolId) : (s.endScript p).AgreesBut F O K A := by
  have freed : (s.setPool p .idle).AgreesBut F O K A := h.same rfl rfl rfl rfl
  unfold State.endScript
  dsimp only
  split
  · exact freed.congr (State.resumeMusic_only _ _).sameKeys
  · exact freed

theorem endScripts (h : s.AgreesBut F O K A) (l : List PoolId) : (l.foldl State.endScript s).AgreesBut F O K A := by
  induction l generalizing s with
  | nil => exact h
  | cons p l ih => exact ih (h.endScript p)

/-- A frame sent (R145, R163). -/
theorem sendFrame (h : s.AgreesBut F O K A) : s.sendFrame.AgreesBut F O K A := by
  unfold State.sendFrame
  dsimp only
  have sent : ∀ v, ((s.setFrame s.samples (s.framesSent + 1)).setTreatment v).AgreesBut F O K A := fun _ =>
    h.same rfl rfl rfl rfl
  split
  · exact sent _
  · exact ((sent _).endScripts _).drain

/-- An announcement skipped (R153). -/
theorem skipAnnouncement (h : s.AgreesBut F O K A) (k : CallId) (due : Nat) :
    (s.skipAnnouncement k due).AgreesBut F O K A := h.congr (State.setCall_sameKeys fun _ => Call.samePlace_of rfl)

/-- A due announcement (R153, R154). -/
theorem announce (h : s.AgreesBut F O K A) (k : CallId) (due : Nat) : (s.announce k due).AgreesBut F O K A := by
  unfold State.announce
  dsimp only
  split
  · split
    · exact (h.congr (State.takePlayer_only _ k _ _ _).sameKeys).drain
    · exact h.skipAnnouncement k due
  · exact h.skipAnnouncement k due

end State.AgreesBut

/-! ### The reset -/

/-- With every list empty, every slot FREE and every agent LOGGED_OUT the records agree. -/
theorem State.agreesBut_of_empty (lists : ∀ q, (s.queue q).waiting = []) (ready : s.readyList = [])
    (calls : ∀ k, (s.call k).state = .FREE) (agents : ∀ a, ∃ now, s.agent a = .reset now) :
    s.AgreesBut F O [] [] := by
  have state : ∀ a, (s.agent a).state = .LOGGED_OUT := fun a => by
    obtain ⟨now, e⟩ := agents a
    rw [e]
    rfl
  refine ⟨fun q => by rw [lists]; exact .nil, fun q k => by simp [lists, calls], by rw [ready]; exact .nil,
    fun a => by simp [ready, state], by rw [ready]; exact .nil, fun k _ no => by simp [calls] at no,
    fun a _ no => by simp [state] at no, fun _ a _ => ?_, fun _ q => by rw [lists]; exact .nil⟩
  obtain ⟨now, e⟩ := agents a
  rw [e]
  exact Agent.fieldsHeld_of_clear (fun _ => rfl) ⟨rfl, rfl, rfl, rfl, rfl⟩ rfl rfl

theorem State.poweredOn_agrees : s.poweredOn.AgreesBut F O [] [] := by
  refine State.agreesBut_of_empty (fun q => ?_) rfl (fun k => ?_) fun a => ?_
  · simp [State.poweredOn, State.reset, State.queue, Queue.reset]
  · simp [State.poweredOn, State.reset, State.call, Call.free]
  · exact ⟨0, by simp [State.poweredOn, State.reset, State.agent]⟩

theorem State.resetBlocks_agrees : s.resetBlocks.AgreesBut F O [] [] := by
  refine State.agreesBut_of_empty (fun q => ?_) rfl (fun k => ?_) fun a => ?_
  · simp [State.resetBlocks, State.queue, Queue.reset]
  · simp only [State.resetBlocks, State.call, Vector.getElem_ofFn]
    unfold Call.portReset
    split <;> rfl
  · exact ⟨s.now, by simp [State.resetBlocks, State.agent]⟩

end

end Sys2Proof.Machine
end

section
/-! PROOFS. O55 and O56: every command keeps the records in agreement, with the fields of agents and the order of the
lists. -/

namespace Sys2Proof.Machine

/-- Every state a result leads to has a property. -/
def LeadsTo (P : State → Prop) (r : Result) : Prop := ∀ t, r = .next t → P t

theorem LeadsTo.next {P : State → Prop} {t : State} (h : P t) : LeadsTo P (.next t) :=
  fun _ e => Host.Outcome.next.inj e ▸ h

theorem LeadsTo.fault {P : State → Prop} (f : Fault) : LeadsTo P (.fault f) := by
  intro t e
  injection e

section
variable {F O : Prop} {s t : State}

/-- The call of a live handle is not FREE (R21). -/
theorem State.not_free_of_live (s : State) {h : Handle} {k : CallId} (live : s.live h = some k) :
    (s.call k).state ≠ .FREE := by
  unfold State.live at live
  split at live
  case isTrue holds =>
    obtain rfl := Option.some.inj live
    exact holds.1
  case isFalse => exact nomatch live

namespace State.AgreesBut

/-! ### Requests -/

theorem toReply (h : s.AgreesBut F O [] []) (r : Reply) : (s.toReply r).AgreesBut F O [] [] := by
  unfold State.toReply
  split <;> exact h.same rfl rfl rfl rfl

/-- A request keeps the agreement where what it does at its owning block keeps it. -/
theorem takeRequest (h : s.AgreesBut F O [] []) {b : Block} {body : State → State × Answer}
    (does : (body s).1.AgreesBut F O [] []) : LeadsTo (State.AgreesBut F O [] []) (takeRequest b s body) := by
  unfold Machine.takeRequest fetched
  split
  · split
    · exact .next (h.toReply _)
    · exact .next (does.toReply _)
  · exact .next h

theorem aLoginBody (h : s.AgreesBut F O [] []) (agent station initial reason : Word) (skills : List Word) :
    (State.aLoginBody agent station initial reason skills s).1.AgreesBut F O [] [] := by
  unfold State.aLoginBody
  split
  · split
    case isTrue => exact h
    case isFalse =>
    split
    case isTrue => exact h
    case isFalse out =>
    split
    · exact h
    · exact (h.login List.not_mem_nil (not_not.mp out) _ _ _).drain
  · exact h

theorem aLogoutBody (h : s.AgreesBut F O [] []) (agent : Word) :
    (State.aLogoutBody agent s).1.AgreesBut F O [] [] := by
  unfold State.aLogoutBody
  split
  · exact h
  · split
    case h_1 u some => exact h.logout List.not_mem_nil some
    case h_2 => exact h

theorem aSetBody (h : s.AgreesBut F O [] []) (agent target reason expected : Word) :
    (State.aSetBody agent target reason expected s).1.AgreesBut F O [] [] := by
  unfold State.aSetBody
  split
  case h_1 => exact h
  case h_2 =>
  dsimp only
  split
  case h_1 => exact h
  case h_2 =>
  split
  case isTrue => exact h
  case isFalse =>
  split
  case h_1 =>
    split
    case h_1 u some => exact (h.setReady List.not_mem_nil some).drain
    case h_2 => exact h
  case h_2 =>
    split
    case h_1 u some => exact h.setAway List.not_mem_nil some
    case h_2 => exact h

theorem aSkillsBody (h : s.AgreesBut F O [] []) (agent : Word) (skills : List Word) :
    (State.aSkillsBody agent skills s).1.AgreesBut F O [] [] := by
  unfold State.aSkillsBody
  split
  · exact (h.reskill List.not_mem_nil _).drain
  · exact h

theorem aCountersBody (h : s.AgreesBut F O [] []) (agent clear : Word) :
    (State.aCountersBody agent clear s).1.AgreesBut F O [] [] := by
  unfold State.aCountersBody
  split
  case h_1 => exact h
  case h_2 =>
  dsimp only
  split
  · exact h.congr (State.setAgent_sameKeys fun _ => Agent.sameKeys_of rfl)
  · exact h

theorem wExtendBody (h : s.AgreesBut F O [] []) (agent seconds : Word) :
    (State.wExtendBody agent seconds s).1.AgreesBut F O [] [] := by
  unfold State.wExtendBody
  split
  case h_1 => exact h
  case h_2 =>
  dsimp only
  split
  case isTrue wrap => exact h.congr (State.setAgent_sameKeys fun _ => Agent.sameKeys_deadline wrap _)
  case isFalse => exact h

theorem wEndBody (h : s.AgreesBut F O [] []) (agent : Word) : (State.wEndBody agent s).1.AgreesBut F O [] [] := by
  unfold State.wEndBody
  split
  case h_1 => exact h
  case h_2 =>
  dsimp only
  split
  case isTrue wrap => exact (h.endWrap List.not_mem_nil wrap false).drain
  case isFalse => exact h

theorem cArriveBody (h : s.AgreesBut F O [] []) (callerTag queue cls : Word) :
    (State.cArriveBody callerTag queue cls s).1.AgreesBut F O [] [] := by
  unfold State.cArriveBody
  split
  case h_1 => exact h
  case h_2 q _ =>
  split
  case isTrue => exact h
  case isFalse =>
  split
  case h_1 => exact h
  case h_2 k slot =>
  have walked := h.walk [] q
  have only : s.OnlyDiverted (s.walk [] q).1 := State.walkBy_only 4 [] q s
  have free : ((s.walk [] q).1.call k).state = .FREE := by
    rw [only.call]
    exact ((s.freeSlot_eq_some k).mp slot).1
  dsimp only
  split
  case h_1 => exact walked
  case h_2 accepting _ => exact (walked.arrive List.not_mem_nil free accepting callerTag (classOf cls)).drain

theorem cAnswerBody (h : s.AgreesBut F O [] []) (handle agent : Word) :
    (State.cAnswerBody handle agent s).1.AgreesBut F O [] [] := by
  unfold State.cAnswerBody
  split
  case h_1 => exact h
  case h_2 k _ =>
  split
  case h_1 => exact h
  case h_2 a _ =>
  split
  case isTrue holds => exact h.answer List.not_mem_nil holds.1 holds.2
  case isFalse => exact h

theorem cEndBody (h : s.AgreesBut F O [] []) (handle : Word) : (State.cEndBody handle s).1.AgreesBut F O [] [] := by
  unfold State.cEndBody
  split
  case h_1 => exact h
  case h_2 k _ =>
  have named : (s.call k).state = .OFFERED ∨ (s.call k).state = .CONNECTED → ∃ a, (s.call k).agent = some a := fun e =>
    let ⟨a, _, toAgent, _⟩ := h.serves_of List.not_mem_nil e; ⟨a, toAgent⟩
  dsimp only
  split
  case h_1 => exact h
  case h_2 queued =>
    have counted := h.countAbandoned k
    exact counted.freeCall_queued ((counted.listed _ k).mpr ⟨List.not_mem_nil, queued, rfl⟩)
  case h_3 offered =>
    obtain ⟨a, toAgent⟩ := named (.inl offered)
    rw [toAgent]
    exact (h.abandonOffer List.not_mem_nil offered toAgent _).drain
  case h_4 connected =>
    obtain ⟨a, toAgent⟩ := named (.inr connected)
    rw [toAgent]
    exact (h.complete List.not_mem_nil connected toAgent _ _).drain

theorem cMoveBody (h : s.AgreesBut F O [] []) (handle queue : Word) :
    (State.cMoveBody handle queue s).1.AgreesBut F O [] [] := by
  unfold State.cMoveBody
  split
  case h_1 => exact h
  case h_2 k live =>
  split
  case h_1 => exact h
  case h_2 q _ =>
  split
  case isTrue => exact h
  case isFalse notOffered =>
  split
  case isTrue => exact h
  case isFalse =>
  split
  case isTrue => exact h
  case isFalse =>
  generalize (if (s.call k).state = .QUEUED then [(s.call k).queue] else []) = visited
  have walked := h.walk visited q
  have only : s.OnlyDiverted (s.walk visited q).1 := State.walkBy_only 4 visited q s
  have state : ((s.walk visited q).1.call k).state = .QUEUED ∨ ((s.walk visited q).1.call k).state = .CONNECTED := by
    have notFree := s.not_free_of_live live
    rw [only.call]
    generalize (s.call k).state = e at notOffered notFree
    cases e <;> simp_all
  dsimp only
  split
  case h_1 => exact walked
  case h_2 accepting _ => exact (walked.moveTo List.not_mem_nil accepting state).drain

theorem cClassBody (h : s.AgreesBut F O [] []) (handle cls : Word) :
    (State.cClassBody handle cls s).1.AgreesBut F O [] [] := by
  unfold State.cClassBody
  split
  case h_1 => exact h
  case h_2 k _ => exact (h.reclass k (classOf cls)).drain

theorem qDefineBody (h : s.AgreesBut F O [] []) (p : QDefineWords) :
    (State.qDefineBody p s).1.AgreesBut F O [] [] := by
  unfold State.qDefineBody
  split
  case h_1 => exact h
  case h_2 q _ =>
  split
  case h_1 => exact h
  case h_2 d _ => exact (h.define q d).drain

theorem qModeBody (h : s.AgreesBut F O [] []) (queue mode : Word) :
    (State.qModeBody queue mode s).1.AgreesBut F O [] [] := by
  unfold State.qModeBody
  split
  case h_2 => exact h
  case h_1 q m _ _ =>
  split
  case isTrue => exact (h.changeMode q m).drain
  case isFalse => exact h

theorem qCountersBody (h : s.AgreesBut F O [] []) (queue clear : Word) :
    (State.qCountersBody queue clear s).1.AgreesBut F O [] [] := by
  unfold State.qCountersBody
  split
  case h_1 => exact h
  case h_2 q _ =>
  split
  case isFalse => exact h
  case isTrue =>
  dsimp only
  split
  · exact h.congr (State.setQueue_sameKeys rfl rfl)
  · exact h

/-! ### Requests of the store, the library and the port -/

theorem setStore (h : s.AgreesBut F O [] []) (v : ClipStore) : (s.setStore v).AgreesBut F O [] [] :=
  h.same rfl rfl rfl rfl

theorem setTreatment (h : s.AgreesBut F O [] []) (v : Treatment) : (s.setTreatment v).AgreesBut F O [] [] :=
  h.same rfl rfl rfl rfl

theorem setTimeBase (h : s.AgreesBut F O [] []) (v : TimeBase) : (s.setTimeBase v).AgreesBut F O [] [] :=
  h.same rfl rfl rfl rfl

theorem setupBody (h : s.AgreesBut F O [] []) (area ring count enables : Word) :
    (State.setupBody area ring count enables s).1.AgreesBut F O [] [] := by
  unfold State.setupBody
  split
  · exact h
  · exact h.same rfl rfl rfl rfl

theorem sMapBody (h : s.AgreesBut F O [] []) (table : List Word) :
    (State.sMapBody table s).1.AgreesBut F O [] [] := by
  unfold State.sMapBody
  dsimp only
  split
  · exact h
  · split
    · exact h
    · exact h.setStore _

theorem sAttrBody (h : s.AgreesBut F O [] []) (segment setting : Word) :
    (State.sAttrBody segment setting s).1.AgreesBut F O [] [] := by
  unfold State.sAttrBody
  split
  · unfold State.setAttr
    dsimp only
    split <;> exact h.same rfl rfl rfl rfl
  · exact h

theorem clipDefineBody (h : s.AgreesBut F O [] []) (clip segment start length : Word) :
    (State.clipDefineBody clip segment start length s).1.AgreesBut F O [] [] := by
  unfold State.clipDefineBody
  split
  · exact h.same rfl rfl rfl rfl
  · split
    · exact h
    · exact h.same rfl rfl rfl rfl
  · exact h

theorem progDefineBody (h : s.AgreesBut F O [] []) (programme enable : Word) (clips : List Word) :
    (State.progDefineBody programme enable clips s).1.AgreesBut F O [] [] := by
  unfold State.progDefineBody
  split
  · exact h.setTreatment _
  · exact h

theorem speechDefineBody (h : s.AgreesBut F O [] []) (entries : List Word) :
    (State.speechDefineBody entries s).1.AgreesBut F O [] [] := by
  unfold State.speechDefineBody
  split
  · exact h.setTreatment _
  · exact h

/-! ### Requests that read -/

theorem aQueryBody (h : s.AgreesBut F O [] []) (agent : Word) :
    (State.aQueryBody agent s).1.AgreesBut F O [] [] := by
  unfold State.aQueryBody
  split <;> exact h

theorem cQueryBody (h : s.AgreesBut F O [] []) (handle : Word) :
    (State.cQueryBody handle s).1.AgreesBut F O [] [] := by
  unfold State.cQueryBody
  split <;> exact h

theorem qQueryBody (h : s.AgreesBut F O [] []) (queue : Word) :
    (State.qQueryBody queue s).1.AgreesBut F O [] [] := by
  unfold State.qQueryBody
  split <;> exact h

theorem qListBody (h : s.AgreesBut F O [] []) (queue start maximum minWait : Word) :
    (State.qListBody queue start maximum minWait s).1.AgreesBut F O [] [] := by
  unfold State.qListBody
  split
  · exact h
  · split <;> exact h

/-! ### The other commands -/

theorem settleSecond (h : s.AgreesBut F O [] []) : s.settleSecond.AgreesBut F O [] [] := h.same rfl rfl rfl rfl

theorem enterLocked (h : s.AgreesBut F O [] []) (position : Nat) : (s.enterLocked position).AgreesBut F O [] [] := by
  have sent := h.settleSecond.sendFrame
  unfold State.enterLocked
  dsimp only
  generalize s.settleSecond.sendFrame = u at sent
  exact sent.same rfl rfl rfl rfl

theorem execSLoad (h : s.AgreesBut F O [] []) (tag : Tag) (segment offset count source : Word) :
    LeadsTo (State.AgreesBut F O [] []) (execSLoad tag segment offset count source s) := by
  unfold Machine.execSLoad fetched
  dsimp only
  split
  case isFalse => exact .next h
  case isTrue =>
  split
  case h_1 => exact .next (h.toReply _)
  case h_2 =>
  split
  case h_1 => exact .next (h.toReply _)
  case h_2 l _ =>
  split
  · exact .next (h.toReply _)
  · exact .next (h.same rfl rfl rfl rfl)

theorem execReqaddrWrite (h : s.AgreesBut F O [] []) (address : Word) :
    LeadsTo (State.AgreesBut F O [] []) (execReqaddrWrite address s) := by
  unfold Machine.execReqaddrWrite
  have taken : ∀ p, (s.setPort p).AgreesBut F O [] [] := fun _ => h.same rfl rfl rfl rfl
  split
  · dsimp only
    split
    · exact .next (taken _)
    · exact .next ((taken _).toReply _)
  · exact .next (taken _)

theorem execFetchRefused (h : s.AgreesBut F O [] []) (word0 : Word) (rest : List Word) :
    LeadsTo (State.AgreesBut F O [] []) (execFetchRefused word0 rest s) := by
  unfold Machine.execFetchRefused
  split
  · split
    · exact .next (h.toReply _)
    · exact .next h
  · exact .next h

theorem execFetchBusFault (h : s.AgreesBut F O [] []) (index : Nat) (word0 : Word) :
    LeadsTo (State.AgreesBut F O [] []) (execFetchBusFault index word0 s) := by
  unfold Machine.execFetchBusFault
  split
  · split
    · exact .next (h.toReply _)
    · split
      · exact .next (h.toReply _)
      · exact .next h
  · exact .next h

theorem execTakenIndexWrite (h : s.AgreesBut F O [] []) (value : Word) :
    LeadsTo (State.AgreesBut F O [] []) (execTakenIndexWrite value s) := by
  unfold Machine.execTakenIndexWrite
  have indexed : ∀ n, (s.setNotices n).AgreesBut F O [] [] := fun _ => h.same rfl rfl rfl rfl
  dsimp only
  split
  · refine .next ?_
    split
    · exact (indexed _).drain
    · exact indexed _
  · exact .next h

theorem endLoad (h : s.AgreesBut F O [] []) (a : Answer) (tag : Tag) : (s.endLoad a tag).AgreesBut F O [] [] :=
  (h.setStore _).toReply _

theorem noteLoadRead (h : s.AgreesBut F O [] []) (address : Nat) : (s.noteLoadRead address).AgreesBut F O [] [] :=
  h.same rfl rfl rfl rfl

theorem execLoadGroupWrite (h : s.AgreesBut F O [] []) (b0 b1 b2 b3 : Byte) :
    LeadsTo (State.AgreesBut F O [] []) (execLoadGroupWrite b0 b1 b2 b3 s) := by
  unfold Machine.execLoadGroupWrite
  split
  · split
    · exact .next ((h.noteLoadRead _).setStore _)
    · exact .next h
  · exact .next h

theorem execLoadComplete (h : s.AgreesBut F O [] []) :
    LeadsTo (State.AgreesBut F O [] []) (execLoadComplete s) := by
  unfold Machine.execLoadComplete
  split
  · split
    · exact .next (h.endLoad _ _)
    · exact .next h
  · exact .next h

theorem execLoadBusFault (h : s.AgreesBut F O [] []) :
    LeadsTo (State.AgreesBut F O [] []) (execLoadBusFault s) := by
  unfold Machine.execLoadBusFault
  split
  · split
    · exact .next ((h.noteLoadRead _).endLoad _ _)
    · exact .next h
  · exact .next h

theorem execFrameSync (h : s.AgreesBut F O [] []) (position : Nat) :
    LeadsTo (State.AgreesBut F O [] []) (execFrameSync position s) := by
  have sent := h.settleSecond.sendFrame
  unfold Machine.execFrameSync
  dsimp only
  split
  · generalize s.settleSecond.sendFrame = u at sent
    exact .next (sent.same rfl rfl rfl rfl)
  · exact .next h
  · exact .next h

theorem execHoldoverFrameSync (h : s.AgreesBut F O [] []) (position : Nat) :
    LeadsTo (State.AgreesBut F O [] []) (execHoldoverFrameSync position s) := by
  unfold Machine.execHoldoverFrameSync
  dsimp only
  split
  case h_2 => exact .next h
  case h_1 =>
  split
  case h_2 => exact .next (h.setTimeBase _)
  case h_1 =>
  split
  case isFalse => exact .next (h.setTimeBase _)
  case isTrue =>
  split
  · exact .next (h.enterLocked position)
  · exact .next (h.setTimeBase _)

theorem execOscillatorPeriod (h : s.AgreesBut F O [] []) :
    LeadsTo (State.AgreesBut F O [] []) (execOscillatorPeriod s) := by
  unfold Machine.execOscillatorPeriod
  split
  · exact .next (h.same rfl rfl rfl rfl)
  · exact .next h

theorem execSecondBoundary (h : s.AgreesBut F O [] []) :
    LeadsTo (State.AgreesBut F O [] []) (execSecondBoundary s) := by
  unfold Machine.execSecondBoundary
  split
  · exact .next (h.setTimeBase _)
  · exact .next h

theorem execHoldoverEntry (h : s.AgreesBut F O [] []) :
    LeadsTo (State.AgreesBut F O [] []) (execHoldoverEntry s) := by
  unfold Machine.execHoldoverEntry
  split
  · exact .next (h.same rfl rfl rfl rfl)
  · exact .next h

theorem execRunTimeout (h : s.AgreesBut F O [] []) :
    LeadsTo (State.AgreesBut F O [] []) (execRunTimeout s) := by
  unfold Machine.execRunTimeout
  split
  · exact .next (h.same rfl rfl rfl rfl)
  · exact .next h

theorem execOfferExpiry (h : s.AgreesBut F O [] []) (slot : CallId) :
    LeadsTo (State.AgreesBut F O [] []) (execOfferExpiry slot s) := by
  unfold Machine.execOfferExpiry
  dsimp only
  split
  case h_2 => exact .next h
  case h_1 a toAgent =>
  split
  case isTrue expires => exact .next (h.expire List.not_mem_nil expires.1 toAgent).drain
  case isFalse => exact .next h

theorem execOverflowExpiry (h : s.AgreesBut F O [] []) (slot : CallId) :
    LeadsTo (State.AgreesBut F O [] []) (execOverflowExpiry slot s) := by
  unfold Machine.execOverflowExpiry
  split
  case isFalse => exact .next h
  case isTrue =>
  split
  case isTrue queued => exact .next (h.overflowAttempt List.not_mem_nil queued).drain
  case isFalse => exact .next (h.congr (State.setCall_sameKeys fun _ => Call.samePlace_of rfl))

theorem execWrapExpiry (h : s.AgreesBut F O [] []) (agent : AgentId) :
    LeadsTo (State.AgreesBut F O [] []) (execWrapExpiry agent s) := by
  unfold Machine.execWrapExpiry
  split
  case isTrue expires => exact .next (h.endWrap List.not_mem_nil expires.1 true).drain
  case isFalse => exact .next h

theorem execAnnouncementDue (h : s.AgreesBut F O [] []) (slot : CallId) :
    LeadsTo (State.AgreesBut F O [] []) (execAnnouncementDue slot s) := by
  unfold Machine.execAnnouncementDue
  split
  case h_2 => exact .next h
  case h_1 d _ =>
  split
  · exact .next (h.announce slot d.due)
  · exact .next h

theorem execFillComplete (h : s.AgreesBut F O [] []) :
    LeadsTo (State.AgreesBut F O [] []) (execFillComplete s) := by
  unfold Machine.execFillComplete
  split
  · exact .next (h.same rfl rfl rfl rfl)
  · exact .next h

theorem execReplyComplete (h : s.AgreesBut F O [] []) :
    LeadsTo (State.AgreesBut F O [] []) (execReplyComplete s) := by
  unfold Machine.execReplyComplete
  split
  · exact .next (h.same rfl rfl rfl rfl)
  · exact .next h

theorem execReplyWriteFault (h : s.AgreesBut F O [] []) (written : Nat) :
    LeadsTo (State.AgreesBut F O [] []) (execReplyWriteFault written s) := by
  unfold Machine.execReplyWriteFault
  split
  · exact .next (h.same rfl rfl rfl rfl)
  · exact .next h

theorem execUndecodedWrite (h : s.AgreesBut F O [] []) (offset value : Word) :
    LeadsTo (State.AgreesBut F O [] []) (execUndecodedWrite offset value s) := by
  unfold Machine.execUndecodedWrite
  split
  · exact .fault _
  · exact .next h

end State.AgreesBut

/-! ### Every command -/

/-- Every command keeps the agreement of the records, with the fields of agents and the order of the lists. -/
theorem exec_agrees (h : s.AgreesBut F O [] []) (c : Instr) : LeadsTo (State.AgreesBut F O [] []) (exec c s) := by
  cases c with
  | powerOn => exact .next State.poweredOn_agrees
  | fillComplete => exact h.execFillComplete
  | portReset value replyWords => exact .next State.resetBlocks_agrees
  | reqaddrWrite address => exact h.execReqaddrWrite address
  | fetchRefused word0 rest => exact h.execFetchRefused word0 rest
  | fetchBusFault index word0 => exact h.execFetchBusFault index word0
  | replyComplete => exact h.execReplyComplete
  | replyWriteFault written => exact h.execReplyWriteFault written
  | takenIndexWrite value => exact h.execTakenIndexWrite value
  | causeClear value => exact .next (h.same rfl rfl rfl rfl)
  | undecodedWrite offset value => exact h.execUndecodedWrite offset value
  | setup => exact h.takeRequest (h.setupBody _ _ _ _)
  | qDefine => exact h.takeRequest (h.qDefineBody _)
  | qMode => exact h.takeRequest (h.qModeBody _ _)
  | qQuery => exact h.takeRequest (h.qQueryBody _)
  | qList => exact h.takeRequest (h.qListBody _ _ _ _)
  | qCounters => exact h.takeRequest (h.qCountersBody _ _)
  | cArrive => exact h.takeRequest (h.cArriveBody _ _ _)
  | cAnswer => exact h.takeRequest (h.cAnswerBody _ _)
  | cEnd => exact h.takeRequest (h.cEndBody _)
  | cMove => exact h.takeRequest (h.cMoveBody _ _)
  | cClass => exact h.takeRequest (h.cClassBody _ _)
  | cQuery => exact h.takeRequest (h.cQueryBody _)
  | aLogin => exact h.takeRequest (h.aLoginBody _ _ _ _ _)
  | aLogout => exact h.takeRequest (h.aLogoutBody _)
  | aSet => exact h.takeRequest (h.aSetBody _ _ _ _)
  | aSkills => exact h.takeRequest (h.aSkillsBody _ _)
  | aQuery => exact h.takeRequest (h.aQueryBody _)
  | aCounters => exact h.takeRequest (h.aCountersBody _ _)
  | wExtend => exact h.takeRequest (h.wExtendBody _ _)
  | wEnd => exact h.takeRequest (h.wEndBody _)
  | sMap => exact h.takeRequest (h.sMapBody _)
  | sAttr => exact h.takeRequest (h.sAttrBody _ _)
  | sLoad tag segment offset count source => exact h.execSLoad tag segment offset count source
  | clipDefine => exact h.takeRequest (h.clipDefineBody _ _ _ _)
  | progDefine => exact h.takeRequest (h.progDefineBody _ _ _)
  | speechDefine => exact h.takeRequest (h.speechDefineBody _)
  | loadGroupWrite b0 b1 b2 b3 => exact h.execLoadGroupWrite b0 b1 b2 b3
  | loadComplete => exact h.execLoadComplete
  | loadBusFault => exact h.execLoadBusFault
  | frameSync position => exact h.execFrameSync position
  | oscillatorPeriod => exact h.execOscillatorPeriod
  | secondBoundary => exact h.execSecondBoundary
  | holdoverEntry => exact h.execHoldoverEntry
  | holdoverFrameSync position => exact h.execHoldoverFrameSync position
  | runTimeout => exact h.execRunTimeout
  | offerExpiry slot => exact h.execOfferExpiry slot
  | overflowExpiry slot => exact h.execOverflowExpiry slot
  | wrapExpiry agent => exact h.execWrapExpiry agent
  | announcementDue slot => exact h.execAnnouncementDue slot

theorem step_agrees (h : s.AgreesBut F O [] []) : LeadsTo (State.AgreesBut F O [] []) (step s) := by
  unfold step
  split
  case h_1 => exact .next h
  case h_2 c rest _ =>
    have given : (s.withPending rest).AgreesBut F O [] [] := h.same rfl rfl rfl rfl
    exact exec_agrees given c

end

/-- Settles O55: every step keeps the agreement, with the fields of the agents where they are held before it. -/
theorem recordsStayInAgreement : Obligations.RecordsStayInAgreement := by
  intro s s' agree run
  have kept := step_agrees agree.agreesBut s' run
  exact ⟨kept.recordsAgree, fun held => s'.fieldsOfState_iff.mpr fun a => kept.fields held a List.not_mem_nil⟩

/-- Settles O56: every step keeps the order of the lists with the agreement. -/
theorem listsStayOrdered : Obligations.ListsStayOrdered := by
  intro s s' agree ordered run
  exact (step_agrees agree.agreesBut s' run).ordered ordered

end Sys2Proof.Machine
end

section
/-! PROOFS. O28 and O19: the queries and the list of a queue read the records and change nothing (R42, R43, R63). -/

namespace Sys2Proof.Machine

/-! ### The items of a record -/

theorem optWord_eq (n : Option Nat) : optWord n = (n.map word).getD 0xFFFFFFFF := by cases n <;> rfl

/-- An item that belongs to one state is 0 outside it. -/
theorem word_ite (p : Prop) [Decidable p] (n : Nat) : word (if p then n else 0) = if p then word n else 0 :=
  apply_ite word p n 0

theorem State.position_word (s : State) (k : CallId) :
    word (if (s.call k).state = .QUEUED then s.position k else 0) =
      if (s.call k).state = .QUEUED ∧ k ∈ (s.queue (s.call k).queue).waiting then
        word ((s.queue (s.call k).queue).waiting.idxOf k + 1)
      else 0 := by
  unfold State.position
  rw [← ite_and, word_ite]

theorem State.callWait_word (s : State) (k : CallId) : word (s.callWait k) =
    if (s.call k).state = .CONNECTED then word (min ((s.call k).talkStart.getD s.now - (s.call k).entry) 65535)
    else word (min (s.now - (s.call k).entry) 65535) := by
  unfold State.callWait
  split
  case h_1 connected => rw [if_pos connected]; rfl
  case h_2 other => rw [if_neg other]; rfl

/-- Settles O28: the items are the record's, an absent one as the word of absence. -/
theorem queriesReturnTheRecord : Obligations.QueriesReturnTheRecord := by
  intro tag k a s hs
  dsimp only
  refine ⟨fun alive => hs.answers rfl ?_, hs.answers rfl ?_⟩
  · simp only [State.cQueryBody, s.live_handle k alive, State.callItems, State.position_word, State.callWait_word,
      optWord_eq]
    rfl
  · simp only [State.aQueryBody, idOf_word (show 1024 ≤ 4294967296 by decide), State.agentItems, word_ite, List.append_assoc]
    cases (s.agent a).call with
    | none => rw [Option.map_none, Option.map_none, Option.getD_none, ite_self]; rfl
    | some h => rfl

/-! ### The walk of a list -/

/-- The longest initial run of entries with a property is the whole list or stops at an entry without it. -/
theorem takeWhile_ends {α : Type} (p : α → Bool) (l : List α) :
    l.takeWhile p = l ∨ ∃ x, l[(l.takeWhile p).length]? = some x ∧ p x = false := by
  induction l with
  | nil => exact .inl rfl
  | cons y ys ih =>
    by_cases h : p y = true
    · rw [List.takeWhile_cons_of_pos h]
      rcases ih with whole | ⟨x, here, stops⟩
      · exact .inl (congrArg (y :: ·) whole)
      · exact .inr ⟨x, by rw [List.length_cons, List.getElem?_cons_succ]; exact here, stops⟩
    · rw [List.takeWhile_cons_of_neg h]
      exact .inr ⟨y, rfl, by simpa using h⟩

/-- The walk of a Q_LIST: an initial run of the list behind its start, of entries that have waited long enough, which ends at
the maximum, at the list's end or at the first that has not (R43). -/
theorem State.listed_spec (s : State) (q : QueueId) (start maximum minWait : Nat) :
    let l := s.listed q start maximum minWait
    let behind := (s.queue q).waiting.drop (start - 1)
    l <+: behind ∧ l.length ≤ maximum ∧ (∀ k ∈ l, minWait ≤ s.rawWait k) ∧
      (l.length = maximum ∨ l = behind ∨ ∃ k, behind[l.length]? = some k ∧ s.rawWait k < minWait) := by
  intro l behind
  have cut : l = (behind.takeWhile fun k => decide (minWait ≤ s.rawWait k)).take maximum := rfl
  refine ⟨?_, ?_, fun k hk => ?_, ?_⟩
  · exact (List.take_prefix _ _).trans (List.takeWhile_prefix _)
  · exact List.length_take_le _ _
  · have waited := List.mem_takeWhile_imp (List.mem_of_mem_take (cut ▸ hk))
    exact of_decide_eq_true waited
  · rw [cut]
    generalize hw : behind.takeWhile (fun k => decide (minWait ≤ s.rawWait k)) = w
    rcases Nat.lt_or_ge w.length maximum with short | long
    · rw [List.take_of_length_le short.le, ← hw]
      refine .inr ((takeWhile_ends _ _).imp_right fun ⟨k, here, stops⟩ => ⟨k, here, ?_⟩)
      exact Nat.lt_of_not_le (of_decide_eq_false stops)
    · exact .inl (List.length_take_of_le long)

/-- The words of one entry (Table 10-4). -/
theorem State.listEntry_eq (s : State) (k : CallId) : s.listEntry k =
    [(s.handle k).word, (s.call k).callerTag, word (min (s.now - (s.call k).entry) 65535 + 65536 * (s.call k).cls)] := by
  rw [Nat.mul_comm]
  rfl

/-- Settles O19: the reply holds the walk from the clamped start. -/
theorem qListWalksFromItsStart : Obligations.QListWalksFromItsStart := by
  intro tag q start maximum minWait s hs defined first most least clamped wait behind
  have start_eq : clamp 1 64 maximum.toNat = most := clamp_eq 1 64 maximum.toNat
  have flag : (first != start.toNat || most != maximum.toNat || least != minWait.toNat) = decide clamped := by
    simp only [clamped, bne, beq_eq_decide, Bool.decide_or, decide_not, eq_comm, Bool.or_assoc]
  refine ⟨s.listed q first most least, ?_, s.listed_spec q first most least⟩
  refine (hs.takes _ rfl).trans (congrArg Host.Outcome.next ?_)
  simp only [State.qListBody, idOf_word (show 64 ≤ 4294967296 by decide), defined, if_true, start_eq,
    Answer.clamped_eq]
  rw [State.toReply_present _ _ hs.2, ← flag, funext s.listEntry_eq]
  rfl

end Sys2Proof.Machine
end

section
/-! PROOFS. O27: C_CLASS stores the class and takes the keyed place (R25, R37). -/

namespace Sys2Proof.Machine

/-- A class stored (R37). -/
def State.withClass (s : State) (k : CallId) (cls : Nat) : State := s.setCall k { s.call k with cls := cls }

/-- The class stored and the list put in order: what a C_CLASS that moves its call does before the sweep (R37). -/
def State.repositioned (s : State) (k : CallId) (cls : Nat) : State := (s.withClass k cls).resort (s.call k).queue

section
variable (s : State) (k : CallId) (cls : Nat)

theorem State.withClass_call : (s.withClass k cls).call k = { s.call k with cls := cls } := by
  rw [State.withClass, State.call_setCall, if_pos rfl]

theorem State.repositioned_call : (s.repositioned k cls).call k = { s.call k with cls := cls } := s.withClass_call k cls

theorem State.repositioned_queue_self : (s.repositioned k cls).queue (s.call k).queue =
    { s.queue (s.call k).queue with
      waiting := (s.withClass k cls).inOrder (s.queue (s.call k).queue).params.classBoost
        (s.queue (s.call k).queue).waiting } := by
  rw [State.repositioned, State.resort, State.queue_setWaiting, if_pos rfl]
  rfl

theorem State.repositioned_queue_other {r : QueueId} (h : r ≠ (s.call k).queue) :
    (s.repositioned k cls).queue r = s.queue r := by
  rw [State.repositioned, State.resort, State.queue_setWaiting, if_neg (Ne.symm h)]
  rfl

/-- A class that moves nothing is stored (R37). -/
theorem State.reclass_stays (stays : ¬ ((s.call k).state = .QUEUED ∧ cls ≠ (s.call k).cls ∧
    (s.queue (s.call k).queue).params.classBoost ≠ 0)) : s.reclass k cls = s.withClass k cls := if_neg stays

/-- A class that moves its call repositions it, and a run of offers follows where something can be offered (R37). -/
theorem State.reclass_moves (moves : (s.call k).state = .QUEUED ∧ cls ≠ (s.call k).cls ∧
    (s.queue (s.call k).queue).params.classBoost ≠ 0) :
    (∃ agents, State.Offers (s.call k).queue (s.repositioned k cls) agents (s.reclass k cls)) ∧
      (s.NoOffer (s.call k).queue → s.reclass k cls = s.repositioned k cls) := by
  have same : s.reclass k cls = if (s.repositioned k cls).position k = s.position k then s.repositioned k cls
      else (s.repositioned k cls).sweep (s.call k).queue := if_pos moves
  rw [same]
  split
  · exact ⟨⟨[], .nil _⟩, fun _ => rfl⟩
  · obtain ⟨agents, offers, -⟩ := (s.repositioned k cls).sweep_offers (s.call k).queue
    refine ⟨⟨agents, offers⟩, fun none => State.NoOffer.sweep ?_⟩
    exact none.congr (by rw [State.repositioned_queue_self]) (by rw [State.repositioned_queue_self]) rfl fun _ _ => rfl

end

/-- The position of a call that stands in its queue's list (R24). -/
theorem State.position_eq {s : State} {k : CallId} (h : k ∈ (s.queue (s.call k).queue).waiting) :
    s.position k = (s.queue (s.call k).queue).waiting.idxOf k + 1 := if_pos h

/-- A C_CLASS of a live call: the class stored, the drain, and the reply (R37). -/
theorem State.Taking.cClass {s : State} (hs : s.Taking) (tag : Tag) {k : CallId} (cls : Word)
    (alive : (s.call k).state ≠ .FREE) : exec (.cClass tag (s.handle k).word cls) s =
      .next ((s.reclass k (min cls.toNat 3)).drain.toReply (Answer.reply
        ⟨clampClass (decide (3 < cls.toNat)), clampReason (decide (3 < cls.toNat)), 0,
          word (min cls.toNat 3) :: if ((s.reclass k (min cls.toNat 3)).call k).state = .QUEUED then
            [word ((s.reclass k (min cls.toNat 3)).position k)] else [], []⟩ 0x24 tag)) := by
  refine (hs.takes _ rfl).trans ?_
  simp only [State.cClassBody, s.live_handle k alive, Answer.clamped_eq]
  rfl

section
variable {s : State} (agree : s.RecordsAgree) {k : CallId} (cls : Nat)
include agree

/-- The last word of the reply where the call has kept its place (R37). -/
theorem State.withClass_position (queued : (s.call k).state = .QUEUED) :
    (s.withClass k cls).position k = (s.queue (s.call k).queue).waiting.idxOf k + 1 := by
  have call := s.withClass_call k cls
  rw [State.position_eq] <;> rw [call]
  · rfl
  · exact (agree.listed _ k).mpr ⟨queued, rfl⟩

theorem State.repositioned_position (queued : (s.call k).state = .QUEUED) : (s.repositioned k cls).position k =
    ((s.repositioned k cls).queue (s.call k).queue).waiting.idxOf k + 1 := by
  have call := s.repositioned_call k cls
  rw [State.position_eq] <;> rw [call]
  rw [State.repositioned_queue_self, (State.inOrder_perm _ _ _).mem_iff]
  exact (agree.listed _ k).mpr ⟨queued, rfl⟩

end

/-- Settles O27: a class that keeps the place is stored; another repositions the call, and a run of offers may
follow. -/
theorem cClassRepositionsTheCall : Obligations.CClassRepositionsTheCall := by
  intro tag k cls s hs law agree alive c stored q moves cl re
  have run := hs.cClass tag cls alive
  refine ⟨fun stays => ?_, fun holds => ?_⟩
  · have quiet : (s.withClass k stored).drain = s.withClass k stored := law.drain_eq rfl rfl
    rw [run, s.reclass_stays k stored stays, quiet, (s.withClass k stored).toReply_replying _ _ _ _ _ hs.2,
      s.withClass_call k stored]
    have words : (if c.state = .QUEUED then [word ((s.withClass k stored).position k)] else []) =
        if c.state = .QUEUED then [word ((s.queue q).waiting.idxOf k + 1)] else [] := by
      split
      case isTrue queued => rw [State.withClass_position agree stored queued]
      case isFalse => rfl
    exact congrArg (fun l => Host.Outcome.next ((s.withClass k stored).replying cl re 0x24 tag (word stored :: l))) words
  · obtain ⟨⟨agents, offers⟩, still⟩ := s.reclass_moves k stored holds
    have self := s.repositioned_queue_self k stored
    have perm := (s.withClass k stored).inOrder_perm (s.queue q).params.classBoost (s.queue q).waiting
    have list : ((s.repositioned k stored).queue q).waiting.Nodup := by
      rw [self]; exact perm.nodup_iff.mpr (agree.listNodup q)
    rw [run]
    obtain ⟨t, ht, closes, replies⟩ := State.closes (s.reclass k stored) cl re
      (word stored :: if ((s.reclass k stored).call k).state = .QUEUED then
        [word ((s.reclass k stored).position k)] else []) 0x24 tag (by rw [offers.rest]; exact hs.2)
    have call := closes.call_same k
    have queue : t.queue q = { s.queue q with waiting := (t.queue q).waiting } := by
      rw [closes.queue, offers.queue_rest, self]
    have others : ∀ r, r ≠ q → t.queue r = s.queue r := fun r hr => by
      rw [closes.queue, offers.queue_other hr, s.repositioned_queue_other k stored hr]
    have library : s.SameLibrary t :=
      (State.sameLibrary_of_rest (by rfl) : s.SameLibrary (s.repositioned k stored)).trans
        (offers.sameLibrary.trans closes.library)
    have record : ((s.reclass k stored).call k).cls = stored ∧ ((s.reclass k stored).call k).entry = c.entry ∧
        ((s.reclass k stored).call k).joinSeq = c.joinSeq ∧ ((s.reclass k stored).call k).moveCount = c.moveCount ∧
        ((s.reclass k stored).call k).audio = c.audio ∧ ((s.reclass k stored).call k).channel = c.channel := by
      rcases offers.call_cases list agree.readyNodup k with e | ⟨a, since, e⟩ <;>
        rw [e, s.repositioned_call k stored] <;> exact ⟨rfl, rfl, rfl, rfl, rfl, rfl⟩
    obtain ⟨hcls, hentry, hjoin, hmoves, haudio, hchannel⟩ := record
    refine ⟨t, congrArg Host.Outcome.next ht, call.cls.trans hcls, call.entry.trans hentry, call.joinSeq.trans hjoin,
      call.moveCount.trans hmoves, call.audio.trans haudio, call.channel.trans hchannel, queue, others,
      closes.joinSeq.trans (by rw [offers.rest]; rfl), closes.treatment.trans (by rw [offers.rest]; rfl), library,
      fun none => ?_⟩
    have kept := still none
    have quiet : (s.repositioned k stored).drain = s.repositioned k stored := law.drain_eq rfl rfl
    have queued : ((s.repositioned k stored).call k).state = .QUEUED := by
      rw [s.repositioned_call k stored]; exact holds.1
    rw [kept, quiet, if_pos queued, State.repositioned_position agree stored holds.1,
      (s.repositioned k stored).toReply_replying _ _ _ _ _ hs.2] at ht
    rw [kept, if_pos queued, State.repositioned_position agree stored holds.1] at replies
    subst ht
    refine ⟨replies, ?_, ?_, rfl⟩
    · show ((s.repositioned k stored).queue q).waiting.Perm (s.queue q).waiting
      rw [self]
      exact perm
    · show ((s.repositioned k stored).queue q).waiting.Pairwise _
      rw [self]
      exact (s.withClass k stored).inOrder_sorted _ _

end Sys2Proof.Machine
end

section
/-! PROOFS. O23: a C_ARRIVE into a queue with an agent ready for it is an offer at once, and its posting (R29, R75 to R78,
R193). -/

namespace Sys2Proof.Machine

/-! ### The choice of an agent -/

/-- The choice looks at the queue's parameters, the ready list and the agents alone (R67). -/
theorem State.chooseAgent_congr {s t : State} {q : QueueId} (params : (t.queue q).params = (s.queue q).params)
    (ready : t.readyList = s.readyList) (agents : ∀ a, t.agent a = s.agent a) :
    t.chooseAgent q = s.chooseAgent q := by
  have preferred : t.preferred q = s.preferred q := by
    funext a b
    unfold State.preferred State.readyBehind Agent.levelFor
    simp only [params, agents]
  have qualifying : t.qualifying q = s.qualifying q := by
    unfold State.qualifying
    rw [ready]
    exact List.filter_congr fun a _ => by rw [agents, Agent.qualifies_congr _ params]
  rw [State.chooseAgent, State.chooseAgent, preferred, qualifying]

/-! ### The posting of an offer -/

/-- The one OFFER mark of a backlog of one call is posted into a ring with room (R191). -/
theorem State.drain_offer (u : State) (k : CallId) (backlog : u.notices.backlog = [.call k])
    (marks : (u.call k).marks = { Marks.empty with offer := true }) (room : 0 < u.ringRoom) :
    u.drain = (u.posted (.call k) .OFFER).leaveBacklog (.call k) := by
  have kind : u.pendingKind (.call k) = some .OFFER := by rw [State.pendingKind, marks]; rfl
  have one : u.pendingCount (.call k) = 1 := by rw [State.pendingCount_call, marks]; rfl
  have spent : (u.posted (.call k) .OFFER).pendingKind (.call k) = none := by
    have := u.posted_count (.call k) .OFFER (.call k) kind
    rw [if_pos rfl] at this
    rw [State.pendingKind_eq_none]
    omega
  have head : u.postHead = (u.posted (.call k) .OFFER).leaveBacklog (.call k) := by
    simp only [State.postHead, backlog, kind, State.post_eq, spent, if_true]
  obtain ⟨n, hn⟩ := u.drain_begins (by rw [backlog]; nofun) room
  rw [hn, head]
  have none : ((u.posted (.call k) .OFFER).leaveBacklog (.call k)).notices.backlog = [] := by
    rw [State.leaveBacklog, State.setNotices_notices, State.posted_notices, backlog]
    exact List.erase_cons_head ..
  cases n with
  | zero => rfl
  | succ n => rw [State.drainBy, none]; rfl

/-- The record of a call whose OFFER has been posted: its timer runs (R78). -/
theorem State.posted_offer_call (u : State) (k : CallId) : (u.posted (.call k) .OFFER).call k =
    { u.call k with
      marks := (u.call k).marks.clear .OFFER, offerPosted := true
      offerDeadline := some (u.inSeconds (u.queue (u.call k).queue).params.answerTimeout) } := by
  unfold State.posted State.clearPosted
  simp only [State.call_setPort, State.call_setCall, if_true]
  rfl

/-- Without a coming fault a posting writes the four words of its slot (R191). -/
theorem State.posted_bus (u : State) (r : RecordRef) (kind : NoticeKind) (faults : u.ringFaults = []) :
    (u.posted r kind).bus.length = u.bus.length + 4 := by
  unfold State.posted
  dsimp only
  rw [State.setPort_bus, State.clearPosted_rest]
  show (State.writeSlot u _).bus.length = _
  simp [State.writeSlot, faults]

/-! ### An offer at a join -/

/-- The record of a call that has arrived and joined (R26, R29). -/
theorem State.withArrival_joined (s : State) (k : CallId) (q : QueueId) (callerTag : Word) (cls : Nat) :
    (s.withArrival k callerTag cls).joinedCall k q =
      { Call.arrived (s.call k).gen callerTag cls s.now with queue := q, joinSeq := s.joinSeq } := by
  have fresh : (s.withArrival k callerTag cls).call k = .arrived (s.call k).gen callerTag cls s.now := by
    rw [State.withArrival, State.call_setCall, if_pos rfl]
  rw [State.joinedCall, fresh]
  congr 1
  exact ite_self _

/-- A call that joins an empty list is offered where the queue distributes and an agent is chosen (R29, R68). -/
theorem State.settleJoin_offers {b : State} {q : QueueId} {a : AgentId} (k : CallId)
    (on : (b.queue q).mode.distribute = true) (empty : (b.queue q).waiting = []) (chosen : b.chooseAgent q = some a) :
    (b.join k q).settleJoin k q = (b.join k q).offer q k a := by
  have list : ((b.join k q).queue q).waiting = [k] :=
    List.perm_singleton.mp (empty ▸ b.join_waiting k q)
  have mode : ((b.join k q).queue q).mode.distribute = true := by rw [State.join_queue_self]; exact on
  have choice : (b.join k q).chooseAgent q = some a :=
    (State.chooseAgent_congr (b.join_params k q q) (by rw [State.join_rest]) (b.join_agent k q)).trans chosen
  have depth : (b.join k q).depth q = 1 := congrArg List.length list
  have swept : (b.join k q).sweep q = (b.join k q).offer q k a := by
    rw [State.sweep, if_pos mode, depth]
    unfold State.sweepBy
    simp only [list, choice]
    rfl
  unfold State.settleJoin
  dsimp only
  rw [swept, if_neg]
  rw [State.offer_call, if_pos rfl]
  nofun

/-- Between two states the call of slot `k` has arrived and been offered at once, before its OFFER is posted (R29, R76). -/
structure State.OfferedAtOnce (s u : State) (k : CallId) (q : QueueId) (a : AgentId) (callerTag : Word) (cls : Nat) :
    Prop where
  call : u.call k = ({ Call.arrived (s.call k).gen callerTag cls s.now with queue := q, joinSeq := s.joinSeq } :
    Call).offeredTo a (s.agent a).readySince
  agent : u.agent a = (s.agent a).offeredCall (s.handle k) s.now
  ready : u.readyList = s.readyList.erase a
  queue : u.queue q = (s.queue q).enteredOnce
  otherQueues : ∀ r, r ≠ q → u.queue r = s.queue r
  otherCalls : ∀ j, j ≠ k → u.call j = s.call j
  otherAgents : ∀ x, x ≠ a → u.agent x = s.agent x
  rest : u = { s with
    queues := u.queues, joinSeq := u.joinSeq, calls := u.calls, readyList := u.readyList, agents := u.agents
    notices := { s.notices with
      backlog := if .call k ∈ s.notices.backlog then s.notices.backlog else s.notices.backlog ++ [.call k] } }

theorem State.arrive_offersAtOnce {s : State} {q : QueueId} {a : AgentId} (k : CallId) (callerTag : Word) (cls : Nat)
    (on : (s.queue q).mode.distribute = true) (empty : (s.queue q).waiting = []) (chosen : s.chooseAgent q = some a) :
    s.OfferedAtOnce (s.arrive k q callerTag cls) k q a callerTag cls := by
  have offered : s.arrive k q callerTag cls = ((s.withArrival k callerTag cls).join k q).offer q k a :=
    State.settleJoin_offers k on empty chosen
  have joined := s.withArrival_joined k q callerTag cls
  have handle : (s.withArrival k callerTag cls).handle k = s.handle k := by
    rw [State.handle, State.withArrival, State.call_setCall, if_pos rfl]
    rfl
  have other : ∀ j, j ≠ k → (s.withArrival k callerTag cls).call j = s.call j := fun j hj => by
    rw [State.withArrival, State.call_setCall, if_neg (Ne.symm hj)]
  have rest : (s.withArrival k callerTag cls) = { s with calls := (s.withArrival k callerTag cls).calls } := rfl
  rw [offered]
  generalize s.withArrival k callerTag cls = b at joined handle other rest
  have queue : ∀ r, b.queue r = s.queue r := fun r => by rw [rest]; rfl
  have agent : ∀ x, (b.join k q).agent x = s.agent x := fun x => by rw [State.join_agent, rest]; rfl
  have list : ((b.join k q).queue q).waiting = [k] :=
    List.perm_singleton.mp (by rw [← empty, ← queue]; exact b.join_waiting k q)
  have call : (b.join k q).call k = b.joinedCall k q := by rw [State.join_call, if_pos rfl]
  refine ⟨?_, ?_, ?_, ?_, fun r hr => ?_, fun j hj => ?_, fun x hx => ?_, ?_⟩
  · rw [State.offer_call, if_pos rfl, call, joined, agent]
  · rw [State.offer_agent, if_pos rfl, agent, State.join_handle, handle, State.join_now, rest]
    rfl
  · rw [State.offer_readyList, State.join_rest, rest]
  · rw [State.offer_queue, if_pos rfl, list, State.join_queue_self, queue, List.erase_cons_head, ← empty]
    rfl
  · rw [State.offer_queue, if_neg (Ne.symm hr), State.join_queue_other _ _ _ hr, queue]
  · rw [State.offer_call, if_neg (Ne.symm hj), State.join_call, if_neg (Ne.symm hj), other j hj]
  · rw [State.offer_agent, if_neg (Ne.symm hx), agent]
  · rw [State.offer_eq, State.join_rest, rest]

section
variable {s u : State} {k : CallId} {q : QueueId} {a : AgentId} {callerTag : Word} {cls : Nat}
  (h : s.OfferedAtOnce u k q a callerTag cls)
include h

theorem State.OfferedAtOnce.ringRoom : u.ringRoom = s.ringRoom := by
  unfold State.ringRoom State.ringOccupancy State.ringCount
  rw [h.rest]

theorem State.OfferedAtOnce.listed : RecordRef.call k ∈ u.notices.backlog := by
  rw [h.rest]
  dsimp only
  split
  · assumption
  · exact List.mem_append_right _ List.mem_cons_self

/-- Into a ring with room and nothing before it the OFFER is posted, and the timer runs (R78, R191). -/
theorem State.OfferedAtOnce.posts (faults : s.ringFaults = []) (empty : s.notices.backlog = []) (room : 0 < s.ringRoom) :
    (u.drain.call k).offerPosted = true ∧
      (u.drain.call k).offerDeadline = some (s.inSeconds (s.queue q).params.answerTimeout) ∧
      u.drain.notices.posted = s.notices.posted + 1 ∧ u.drain.notices.backlog = [] ∧
      u.drain.port.causes.notice = true ∧ u.drain.bus.length = s.bus.length + 4 := by
  have single : u.notices.backlog = [.call k] := by
    rw [h.rest]
    dsimp only
    rw [empty, if_neg List.not_mem_nil, List.nil_append]
  have marks : (u.call k).marks = { Marks.empty with offer := true } := by rw [h.call]; rfl
  have call := u.posted_offer_call k
  have timeout : u.inSeconds (u.queue (u.call k).queue).params.answerTimeout =
      s.inSeconds (s.queue q).params.answerTimeout := by
    have own : (u.call k).queue = q := by rw [h.call]; rfl
    have seconds : u.inSeconds = s.inSeconds := by rw [h.rest]; rfl
    rw [own, h.queue, seconds]
    rfl
  have bus := u.posted_bus (.call k) .OFFER (by rw [h.rest]; exact faults)
  have notices := u.posted_notices (.call k) .OFFER
  have before : u.notices.posted = s.notices.posted ∧ u.bus = s.bus := by rw [h.rest]; exact ⟨rfl, rfl⟩
  obtain ⟨posted, sameBus⟩ := before
  rw [u.drain_offer k single marks (by rw [h.ringRoom]; exact room)]
  rw [timeout] at call
  rw [sameBus] at bus
  refine ⟨congrArg Call.offerPosted call, congrArg Call.offerDeadline call, ?_, ?_, rfl, bus⟩
  · rw [State.leaveBacklog, State.setNotices_notices, notices, posted]
  · rw [State.leaveBacklog, State.setNotices_notices, notices, single]
    exact List.erase_cons_head ..

end

/-- Settles O23: the arrival is a join and one offer; its OFFER is posted into a ring with room and no backlog, and waits
in a full one. -/
theorem cArriveOffersToAReadyAgent : Obligations.CArriveOffersToAReadyAgent := by
  intro tag callerTag cls q k a s hs law faults admits mode empty free lowest chosen
  have walk : s.walk [] q = (s, some q) := State.walkBy_accepts 4 List.not_mem_nil admits
  have h := State.arrive_offersAtOnce k callerTag (min cls.toNat 3) (by rw [mode]; rfl) empty chosen
  rw [hs.cArrive_accepted admits.1 tag callerTag cls ((s.freeSlot_eq_some k).mpr ⟨free, lowest⟩) walk]
  generalize s.arrive k q callerTag (min cls.toNat 3) = u at h
  have handle : u.handle k = s.handle k := by rw [State.handle, h.call]; rfl
  have state : (u.call k).state = .OFFERED := by rw [h.call]; rfl
  obtain ⟨t, ht, closes, replies⟩ := u.closes (clampClass (decide (3 < cls.toNat)))
    (clampReason (decide (3 < cls.toNat))) [(u.handle k).word, word q.val, word (u.call k).state.code] 0x20 tag
    (by rw [h.rest]; exact hs.2)
  rw [handle, state] at replies
  refine ⟨t, congrArg _ ht, replies, ?_, closes.agent_of h.agent, ?_, ?_, fun r hr => ?_, fun j hj => ?_, fun x hx => ?_, ?_,
    ?_, fun none room => ?_, fun full => ?_⟩
  · exact Call.SameButNotices.trans (Call.sameButNotices_of rfl) (closes.call_of h.call)
  · rw [closes.readyList, h.ready]
  · rw [closes.queue, h.queue]; rfl
  · rw [closes.queue, h.otherQueues r hr]
  · exact closes.call_of (h.otherCalls j hj)
  · exact closes.agent_of (h.otherAgents x hx)
  · rw [closes.treatment, h.rest]
  · exact (State.sameLibrary_of_rest (by rw [h.rest])).trans closes.library
  · rw [closes.calls, closes.notices, closes.cause, closes.bus]
    exact h.posts faults none room
  · have quiet : u.drain = u := u.drain_full (h.ringRoom.trans full)
    rw [closes.calls, closes.notices, closes.bus, quiet]
    refine ⟨?_, ?_, ?_, h.listed, by rw [h.rest]⟩ <;> rw [h.call] <;> rfl

end Sys2Proof.Machine
end

section
/-! PROOFS. The end of a call: its slot freed, an agent that returns to READY, and what a drain does not touch (R30, R88,
R191). -/

namespace Sys2Proof.Machine

/-! ### A freed slot -/

section
variable (s : State) (k : CallId)

/-- The call leaves the backlog with its marks (R30, R193). -/
theorem State.freeCall_backlog : (s.freeCall k).notices.backlog = s.notices.backlog.erase (.call k) := by
  have rest := (s.releasePlayer_only k).rest
  have same : (s.releasePlayer k).notices.backlog = s.notices.backlog := by
    unfold State.releasePlayer
    split <;> rfl
  unfold State.freeCall
  dsimp only
  generalize s.releasePlayer k = u at same
  rw [← same]
  split <;> rfl

theorem State.freeCall_pool (p : PoolId) :
    (s.freeCall k).pool p = if (s.call k).poolPlayer = some p then .idle else s.pool p := by
  rw [← s.releasePlayer_pool k p]
  unfold State.freeCall
  dsimp only
  split <;> rfl

/-- A call that is not QUEUED leaves no list (R30). -/
theorem State.freeCall_queues (h : (s.call k).state ≠ .QUEUED) : (s.freeCall k).queues = s.queues := by
  have same : (s.releasePlayer k).queues = s.queues := by rw [(s.releasePlayer_only k).rest]
  have state : ((s.releasePlayer k).call k).state ≠ .QUEUED := by rw [State.releasePlayer_call, if_pos rfl]; exact h
  unfold State.freeCall
  dsimp only
  rw [if_neg state]
  exact same

/-- A QUEUED call leaves the list of its queue (R30). -/
theorem State.freeCall_queue_queued (h : (s.call k).state = .QUEUED) (q : QueueId) : (s.freeCall k).queue q =
    if (s.call k).queue = q then { s.queue q with waiting := (s.queue q).waiting.erase k } else s.queue q := by
  have same : ∀ x, (s.releasePlayer k).queue x = s.queue x := fun x => by rw [(s.releasePlayer_only k).queue]
  have call : (s.releasePlayer k).call k = { s.call k with poolPlayer := none } := by
    rw [State.releasePlayer_call, if_pos rfl]
  unfold State.freeCall
  dsimp only
  rw [if_pos (by rw [call]; exact h), call]
  show ((s.releasePlayer k).leaveList (s.call k).queue k).queue q = _
  rw [State.leaveList, State.queue_setWaiting]
  simp only [same]
  split
  case isTrue e => subst e; rfl
  case isFalse => rfl

theorem State.freeCall_sameLibrary : s.SameLibrary (s.freeCall k) :=
  State.sameLibrary_of_rest (by rw [State.freeCall_rest])

end

/-! ### A drain and the records without a mark -/

theorem State.posted_call_other (s : State) (r : RecordRef) (kind : NoticeKind) {k : CallId} (h : r ≠ .call k) :
    (s.posted r kind).call k = s.call k := by
  cases r with
  | agent a => rfl
  | call j =>
    have : j ≠ k := fun e => h (congrArg RecordRef.call e)
    cases kind <;> simp [State.posted, State.clearPosted, this] <;> rfl

/-- A record with no mark is not touched by a posting (R191). -/
theorem State.postHead_call_unmarked (s : State) {k : CallId} (none : s.pendingCount (.call k) = 0) :
    s.postHead.call k = s.call k := by
  cases hb : s.notices.backlog with
  | nil => simp only [State.postHead, hb]
  | cons r rest =>
    by_cases hp : s.pendingCount r = 0
    · rw [State.postHead_skips s r rest hb hp]; rfl
    · have other : r ≠ .call k := fun e => hp (e ▸ none)
      obtain ⟨kind, hk⟩ := Option.ne_none_iff_exists'.mp (mt (s.pendingKind_eq_none r).mp hp)
      have posted : s.postHead = s.post r kind := by simp only [State.postHead, hb, hk]
      rw [posted, State.post_eq]
      split <;> exact s.posted_call_other r kind other

theorem State.drain_call_unmarked (s : State) {k : CallId} (none : (s.call k).marks.count = 0) :
    s.drain.call k = s.call k := by
  unfold State.drain
  generalize s.ringRoom + s.notices.backlog.length = n
  induction n generalizing s with
  | zero => rfl
  | succ n ih =>
    unfold State.drainBy
    split
    · rfl
    · have kept := s.postHead_call_unmarked none
      rw [ih s.postHead (by rw [kept]; exact none), kept]

/-! ### Selections and calls in no list -/

/-- A selection offers no call that stands in no list (R71). -/
theorem State.select_call_kept (s : State) (a : AgentId) {k : CallId} (out : ∀ q, k ∉ (s.queue q).waiting) :
    (s.select a).call k = s.call k := by
  rcases s.select_cases a with same | ⟨q, j, rest, -, head, offer⟩
  · rw [same]
  · have : j ≠ k := fun e => out q (by rw [head, ← e]; exact List.mem_cons_self)
    rw [offer, State.offer_call, if_neg this]

theorem State.enterReady_call_kept (s : State) (a : AgentId) (since : Nat) {k : CallId}
    (out : ∀ q, k ∉ (s.queue q).waiting) : (s.enterReady a since).call k = s.call k :=
  State.select_call_kept _ a out

/-- Nor does the end of a wrap (R101). -/
theorem State.endWrap_call_kept (s : State) (a : AgentId) {k : CallId} (out : ∀ q, k ∉ (s.queue q).waiting) :
    (s.endWrap a true).call k = s.call k := by
  obtain ⟨t, ht, ends⟩ := s.endWrap_cases a true
  have handed : t = s.handedOver a := ht
  have call : ∀ j, t.call j = s.call j := fun j => by rw [handed, State.handedOver_rest]; rfl
  have list : ∀ q, k ∉ (t.queue q).waiting := fun q => by
    rw [handed, State.handedOver_queue]
    split <;> exact out q
  rw [ends]
  cases (s.agent a).pending with
  | NONE =>
    have marked : ∀ q, k ∉ ((t.markAgent a).queue q).waiting := fun q => by rw [State.markAgent_eq]; exact list q
    refine ((t.markAgent a).enterReady_call_kept a s.now marked).trans ?_
    rw [State.markAgent_eq]
    exact call k
  | AWAY r =>
    show ((t.setAgent a _).markAgent a).call k = s.call k
    rw [State.markAgent_eq]
    exact call k
  | LOGOUT =>
    show ((t.setAgent a _).markAgent a).call k = s.call k
    rw [State.markAgent_eq]
    exact call k

end Sys2Proof.Machine
end

section
/-! PROOFS. O25: C_END by the state of the call (R31 to R33, R88, R92, R95). -/

namespace Sys2Proof.Machine

/-! ### Abandonment -/

/-- A queue with one abandonment counted, of a call that had waited `wait` seconds (R31, R32). -/
def Queue.abandonedOnce (r : Queue) (wait : Nat) : Queue :=
  { r with
    counters := { r.counters with
      abandoned := min (r.counters.abandoned + 1) 4294967295
      abandonedShort := if wait < r.params.shortAbandon then min (r.counters.abandonedShort + 1) 4294967295
        else r.counters.abandonedShort } }

theorem State.countAbandoned_queue (s : State) (k : CallId) (q : QueueId) : (s.countAbandoned k).queue q =
    if (s.call k).queue = q then (s.queue q).abandonedOnce (s.rawWait k) else s.queue q := by
  unfold State.countAbandoned State.count
  rw [State.queue_setCounters]
  split
  case isTrue e =>
    subst e
    simp [Queue.abandonedOnce, QueueCounters.addAbandoned, satAdd, Config.maxU32]
  case isFalse => rfl

/-- The end of a call in QUEUED: counted, and its slot freed (R31). -/
theorem State.Taking.cEnd_queued {s : State} (hs : s.Taking) (tag : Tag) {k : CallId} (queued : (s.call k).state = .QUEUED) :
    exec (.cEnd tag (s.handle k).word) s =
      .next (((s.countAbandoned k).freeCall k).replying .DONE .NONE 0x22 tag [1, word (s.rawWait k)]) := by
  have live := s.live_handle k (by rw [queued]; decide)
  refine (hs.takes _ rfl).trans ?_
  simp only [State.cEndBody, live, queued]
  refine congrArg Host.Outcome.next (State.toReply_replying _ .DONE .NONE _ 0x22 tag ?_)
  rw [State.freeCall_rest]
  exact hs.2

/-- The end of a call in OFFERED: counted, its slot freed, and its agent returned to READY (R32, R88). -/
theorem State.Taking.cEnd_offered {s : State} (hs : s.Taking) (tag : Tag) {k : CallId} {a : AgentId}
    (offered : (s.call k).state = .OFFERED) (agent : (s.call k).agent = some a) :
    exec (.cEnd tag (s.handle k).word) s =
      .next ((((s.countAbandoned k).freeCall k).returnAgent a
        ((s.call k).savedReadySince.getD (s.agent a).readySince)).drain.toReply
          (Answer.reply ⟨.DONE, .NONE, 0, [2, word (s.rawWait k), word a.val], []⟩ 0x22 tag)) := by
  have live := s.live_handle k (by rw [offered]; decide)
  refine (hs.takes _ rfl).trans ?_
  simp only [State.cEndBody, live, offered, agent]
  rfl

/-- The end of a call in CONNECTED: its agent enters WRAP, its slot is freed, and a wrap with no wrap base ends
(R33, R92, R95). -/
theorem State.Taking.cEnd_connected {s : State} (hs : s.Taking) (tag : Tag) {k : CallId} {a : AgentId} {start : Nat}
    (connected : (s.call k).state = .CONNECTED) (agent : (s.call k).agent = some a)
    (talk : (s.call k).talkStart = some start) :
    exec (.cEnd tag (s.handle k).word) s =
      .next ((((s.enterWrap a (s.call k).queue (s.now - start)).freeCall k).endWrapAtEntry a (s.call k).queue).drain.toReply
        (Answer.reply ⟨.DONE, .NONE, 0, [3, word a.val, word (s.now - start)], []⟩ 0x22 tag)) := by
  have live := s.live_handle k (by rw [connected]; decide)
  refine (hs.takes _ rfl).trans ?_
  simp only [State.cEndBody, live, connected, agent, State.talkSeconds, talk]
  rfl

/-! ### The agent that returns -/

/-- An agent back in READY at part time `now` with its saved ready-since (R88). -/
def Agent.returned (g : Agent) (since now : Nat) : Agent :=
  { g with state := .READY, call := none, readySince := since, awayReason := 0, stateEntry := now }

/-- The agent in READY and in the ready list, before queue selection runs (R51, R88). -/
def State.backInReady (s : State) (a : AgentId) (since : Nat) : State :=
  (s.setAgent a ((s.agent a).returned since s.now)).joinReady a

theorem State.returnAgent_eq (s : State) (a : AgentId) (since : Nat) :
    s.returnAgent a since = (s.backInReady a since).select a := by
  have twice : ∀ g h : Agent, (s.setAgent a g).setAgent a h = s.setAgent a h := fun g h => by simp [State.setAgent]
  unfold State.returnAgent State.enterReady State.backInReady
  dsimp only
  rw [twice, State.agent_setAgent, if_pos rfl]
  rfl

/-- Agent `a` has returned to READY with ready-since `since` between two states, and at most one waiting call has been
offered to it (R71, R88). -/
structure State.Returns (s u : State) (a : AgentId) (since : Nat) : Prop where
  rest : u = { s with
    queues := u.queues, calls := u.calls, readyList := u.readyList, agents := u.agents
    notices := { s.notices with backlog := u.notices.backlog } }
  agent : (u.agent a = (s.agent a).returned since s.now ∧ a ∈ u.readyList) ∨
    ∃ h, u.agent a = ((s.agent a).returned since s.now).offeredCall h s.now
  others : ∀ b, b ≠ a → u.agent b = s.agent b
  queue : ∀ x, u.queue x = { s.queue x with waiting := (u.queue x).waiting }
  unlisted : ∀ j, (∀ q, j ∉ (s.queue q).waiting) → u.call j = s.call j
  still : s.candidates a = [] → u = s.backInReady a since

theorem State.Returns.fields {s u : State} {a : AgentId} {since : Nat} (h : s.Returns u a since) :
    (u.agent a).readySince = since ∧ (u.agent a).stateEntry = s.now ∧
      ((u.agent a).state = .READY ∧ a ∈ u.readyList ∨ (u.agent a).state = .OFFERED) := by
  rcases h.agent with ⟨e, ready⟩ | ⟨call, e⟩ <;> rw [e]
  · exact ⟨rfl, rfl, .inl ⟨rfl, ready⟩⟩
  · exact ⟨rfl, rfl, .inr rfl⟩

theorem State.backInReady_agent (s : State) (a : AgentId) (since : Nat) (b : AgentId) :
    (s.backInReady a since).agent b = if a = b then (s.agent a).returned since s.now else s.agent b :=
  s.agent_setAgent a b _

theorem State.backInReady_ready (s : State) (a : AgentId) (since : Nat) :
    (s.backInReady a since).readyList.Perm (a :: s.readyList) := insertWhere_perm _ _ _

/-- The candidates of an agent look at its skills and at the mode, the list and the parameters of the queues (R71). -/
theorem State.candidates_congr {s t : State} {a : AgentId} (mode : ∀ q, (t.queue q).mode = (s.queue q).mode)
    (waiting : ∀ q, (t.queue q).waiting = (s.queue q).waiting)
    (qualifies : ∀ q, (t.agent a).qualifies (t.queue q) = (s.agent a).qualifies (s.queue q)) :
    t.candidates a = s.candidates a := List.filter_congr fun q _ => by rw [mode, waiting, qualifies]

theorem State.returnAgent_returns (s : State) (a : AgentId) (since : Nat) :
    s.Returns (s.returnAgent a since) a since := by
  have own : (s.backInReady a since).agent a = (s.agent a).returned since s.now := by
    rw [State.backInReady_agent, if_pos rfl]
  have other : ∀ b, b ≠ a → (s.backInReady a since).agent b = s.agent b := fun b hb => by
    rw [State.backInReady_agent, if_neg (Ne.symm hb)]
  have candidates : (s.backInReady a since).candidates a = s.candidates a :=
    State.candidates_congr (fun _ => rfl) (fun _ => rfl) fun q => by rw [own]; rfl
  have ready := (s.backInReady_ready a since).mem_iff.mpr List.mem_cons_self
  have kept : ∀ j, (∀ q, j ∉ (s.queue q).waiting) → ((s.backInReady a since).select a).call j = s.call j :=
    fun j out => (s.backInReady a since).select_call_kept a out
  have still : s.candidates a = [] → (s.backInReady a since).select a = s.backInReady a since := fun none =>
    (s.backInReady a since).select_none a (candidates.trans none)
  rw [State.returnAgent_eq]
  rcases (s.backInReady a since).select_cases a with same | ⟨q, k, _, -, -, offer⟩
  · rw [same] at kept ⊢
    exact ⟨rfl, .inl ⟨own, ready⟩, other, fun _ => rfl, kept, fun _ => rfl⟩
  · refine ⟨?_, .inr ⟨(s.backInReady a since).handle k, ?_⟩, fun b hb => ?_, fun x => ?_, kept, still⟩
    · rw [offer, State.offer_eq]; rfl
    · rw [offer, State.offer_agent, if_pos rfl, own]; rfl
    · rw [offer, State.offer_agent, if_neg (Ne.symm hb), other b hb]
    · rw [offer, State.offer_queue]
      split
      case isTrue e => subst e; rfl
      case isFalse => rfl

/-! ### The three ends -/

/-- A call that is not QUEUED stands in no list (R24). -/
theorem State.RecordsAgree.unlisted {s : State} (agree : s.RecordsAgree) {k : CallId} (other : (s.call k).state ≠ .QUEUED)
    (q : QueueId) : k ∉ (s.queue q).waiting := fun m => other ((agree.listed q k).mp m).1

theorem State.replying_sameLibrary (s : State) (cls : ReplyClass) (reason : Reason) (code : BitVec 8) (tag : Tag)
    (payload : List Word) : s.SameLibrary (s.replying cls reason code tag payload) :=
  ⟨rfl, rfl, rfl, rfl, rfl, ⟨rfl, rfl⟩, ⟨rfl, rfl⟩, ⟨rfl, rfl⟩, ⟨rfl, rfl⟩, rfl, rfl, ⟨rfl, rfl⟩, rfl⟩

theorem State.countAbandoned_sameLibrary (s : State) (k : CallId) : s.SameLibrary (s.countAbandoned k) :=
  State.sameLibrary_of_rest rfl

/-- Settles O25: an abandonment frees the slot, and during an offer returns the agent; a completion begins the wrap, and
ends it where there is no wrap base. No drain and no selection touches the freed slot. -/
theorem cEndFreesTheSlot : Obligations.CEndFreesTheSlot := by
  intro tag k s hs agree c r wait abandoned freed
  have counted := s.countAbandoned_queue k
  refine ⟨fun queued => ?_, fun a offered agent => ?_, fun a start connected agent talk => ?_⟩
  · have queue := (s.countAbandoned k).freeCall_queue_queued k queued
    have call := (s.countAbandoned k).freeCall_call k
    have rest := (s.countAbandoned k).freeCall_rest k
    have backlog := (s.countAbandoned k).freeCall_backlog k
    have pool := (s.countAbandoned k).freeCall_pool k
    have library := (s.countAbandoned k).freeCall_sameLibrary k
    refine ⟨_, hs.cEnd_queued tag queued, ⟨rfl, rfl⟩, ?_, ?_, fun q hq => ?_, fun j hj => ?_, pool, ?_, ?_, ?_, ?_, ?_,
      ?_⟩
    · exact (call k).trans (if_pos rfl)
    · refine (queue c.queue).trans ((if_pos rfl).trans ?_)
      rw [counted, if_pos rfl]
      rfl
    · exact (queue q).trans ((if_neg (Ne.symm hq)).trans ((counted q).trans (if_neg (Ne.symm hq))))
    · exact (call j).trans (if_neg (Ne.symm hj))
    · exact (congrArg State.agents rest :)
    · exact (congrArg State.readyList rest :)
    · exact (congrArg State.notices rest :).trans (by rw [backlog]; rfl)
    · exact (congrArg State.joinSeq rest :)
    · exact (congrArg State.bus rest :)
    · exact (s.countAbandoned_sameLibrary k).trans (library.trans (State.replying_sameLibrary _ _ _ _ _ _))
  · have notQueued : (s.call k).state ≠ .QUEUED := by rw [show (s.call k).state = _ from offered]; decide
    have queues := (s.countAbandoned k).freeCall_queues k notQueued
    have call := (s.countAbandoned k).freeCall_call k
    have agents := (s.countAbandoned k).freeCall_agent k
    have rest := (s.countAbandoned k).freeCall_rest k
    have pool := (s.countAbandoned k).freeCall_pool k
    have library := (s.countAbandoned_sameLibrary k).trans ((s.countAbandoned k).freeCall_sameLibrary k)
    have returns := ((s.countAbandoned k).freeCall k).returnAgent_returns a
      (c.savedReadySince.getD (s.agent a).readySince)
    rw [hs.cEnd_offered tag offered agent]
    generalize (s.countAbandoned k).freeCall k = f at queues call agents rest pool library returns
    have queue : ∀ q, f.queue q = if c.queue = q then (s.queue q).abandonedOnce (s.rawWait k) else s.queue q :=
      fun q => by rw [← counted, State.queue, queues]; rfl
    have now : f.now = s.now := (congrArg State.now rest :)
    have agentOf : ∀ b, f.agent b = s.agent b := agents
    generalize f.returnAgent a (c.savedReadySince.getD (s.agent a).readySince) = u at returns
    have freed_kept : u.call k = freed := by
      rw [returns.unlisted k fun q => ?_, call k, if_pos rfl]
      · rfl
      · rw [queue]
        split
        · exact agree.unlisted notQueued q
        · exact agree.unlisted notQueued q
    obtain ⟨t, ht, closes, replies⟩ := u.closes .DONE .NONE [2, word (s.rawWait k), word a.val] 0x22 tag
      (by rw [returns.rest, rest]; exact hs.2)
    have own := queue c.queue
    rw [if_pos rfl] at own
    have unchanged : ∀ q, q ≠ c.queue → f.queue q = s.queue q := fun q hq => by rw [queue, if_neg (Ne.symm hq)]
    have sameParts : ∀ q, (f.queue q).mode = (s.queue q).mode ∧ (f.queue q).waiting = (s.queue q).waiting ∧
        (f.queue q).params = (s.queue q).params := fun q => by
      rw [queue]
      split <;> exact ⟨rfl, rfl, rfl⟩
    have candidates : f.candidates a = s.candidates a := State.candidates_congr (fun q => (sameParts q).1)
      (fun q => (sameParts q).2.1) fun q => by rw [agentOf, Agent.qualifies_congr _ (sameParts q).2.2]
    obtain ⟨since, entry, resumes⟩ := returns.fields
    have marked : t.agent a = { u.agent a with mark := (t.agent a).mark } := closes.agent_same a
    refine ⟨t, congrArg _ ht, replies, ?_, ?_, ?_, ?_, ?_, ?_, fun none => ?_, fun b hb => ?_, fun p => ?_, ?_, ?_⟩
    · rw [closes.calls, u.drain_call_unmarked (by rw [freed_kept]; rfl), freed_kept]
    · rw [closes.queue, returns.queue, own]; rfl
    · rw [closes.queue, returns.queue, own]; rfl
    · rw [marked]; exact since
    · rw [marked]; exact entry.trans now
    · rw [marked, closes.readyList]; exact resumes
    · have still := returns.still (candidates.trans none)
      rw [still] at closes
      refine ⟨closes.agent_of ?_, ?_, ?_, fun q hq => ?_, fun j hj => ?_⟩
      · rw [State.backInReady_agent, if_pos rfl, agentOf, now]; rfl
      · rw [closes.readyList, ← show f.readyList = s.readyList from (congrArg State.readyList rest :)]
        exact f.backInReady_ready a _
      · exact (closes.queue c.queue).trans own
      · exact (closes.queue q).trans (unchanged q hq)
      · exact closes.call_of ((call j).trans (if_neg (Ne.symm hj)))
    · exact closes.agent_of ((returns.others b hb).trans (agentOf b))
    · rw [closes.pool, show u.pool p = f.pool p by rw [returns.rest]; rfl]
      exact pool p
    · rw [closes.joinSeq, returns.rest]; exact (congrArg State.joinSeq rest :)
    · exact library.trans ((State.sameLibrary_of_rest (by rw [returns.rest])).trans closes.library)
  · have notQueued : (s.call k).state ≠ .QUEUED := by rw [show (s.call k).state = _ from connected]; decide
    let n := s.enterWrap a c.queue (s.now - start)
    have queues := n.freeCall_queues k notQueued
    have call := n.freeCall_call k
    have agents := n.freeCall_agent k
    have rest := n.freeCall_rest k
    have backlog := n.freeCall_backlog k
    have library : s.SameLibrary (n.freeCall k) := (State.sameLibrary_of_rest rfl).trans (n.freeCall_sameLibrary k)
    rw [hs.cEnd_connected tag connected agent talk]
    generalize (s.enterWrap a (s.call k).queue (s.now - start)).freeCall k = f at queues call agents rest backlog library
    have queue : ∀ q, f.queue q = s.queue q := fun q => by unfold State.queue; rw [queues]; rfl
    have unlisted : ∀ q, k ∉ (f.queue q).waiting := fun q => by rw [queue]; exact agree.unlisted notQueued q
    have freed_here : f.call k = freed := (call k).trans (if_pos rfl)
    have wrapping : f.agent a = (s.agent a).wrapping c.queue r.params (s.now - start) s.now :=
      (agents a).trans ((s.agent_setAgent a a _).trans (if_pos rfl))
    have now : f.now = s.now := (congrArg State.now rest :)
    have room : f.ringRoom = s.ringRoom := by
      unfold State.ringRoom State.ringOccupancy State.ringCount
      rw [rest]
      rfl
    by_cases ends : r.params.wrapBase = 0
    · have done := f.endWrap_done a
      have kept := f.endWrap_call_kept a unlisted
      have entered : f.endWrapAtEntry a (s.call k).queue = f.endWrap a true := if_pos (by rw [queue]; exact ends)
      rw [entered]
      generalize f.endWrap a true = u at done kept
      obtain ⟨t, ht, closes, replies⟩ := u.closes .DONE .NONE [3, word a.val, word (s.now - start)] 0x22 tag
        (by rw [done.rest, rest]; exact hs.2)
      refine ⟨t, congrArg _ ht, replies, ?_, fun wraps => absurd ends wraps, fun _ => ⟨?_, ?_⟩, ?_, ?_⟩
      · rw [closes.calls, u.drain_call_unmarked (by rw [kept, freed_here]; rfl), kept, freed_here]
      · have wrapEnds := done.ends
        rw [wrapping, now] at wrapEnds
        have zero : s.now - ((s.agent a).wrapping c.queue r.params (s.now - start) s.now).wrapStart = 0 := Nat.sub_self _
        rw [zero] at wrapEnds
        exact (wrapEnds.congr (by rw [wrapping]; rfl) (by rw [wrapping]; exact ⟨rfl, rfl⟩)
          (fun x => by rw [queue]) now).closed closes
      · have reported : f.AgentReported t a := done.reports.agentReported (by decide) closes (by rw [done.rest]; rfl)
          (by rw [done.rest]) done.listed done.marked
        refine ⟨fun full => reported.waits (room.trans full), fun empty space => ?_⟩
        have none : f.notices.backlog = [] := backlog.trans (by rw [show n.notices.backlog = [] from empty]; rfl)
        have posted : f.notices.posted = s.notices.posted := (congrArg (·.notices.posted) rest :)
        exact posted ▸ reported.posts none (room.symm ▸ space)
      · rw [closes.joinSeq, done.rest]; exact (congrArg State.joinSeq rest :)
      · exact library.trans ((State.sameLibrary_of_rest (by rw [done.rest])).trans closes.library)
    · have stands : f.endWrapAtEntry a (s.call k).queue = f := if_neg (by rw [queue]; exact ends)
      rw [stands]
      obtain ⟨t, ht, closes, replies⟩ := f.closes .DONE .NONE [3, word a.val, word (s.now - start)] 0x22 tag
        (by rw [rest]; exact hs.2)
      refine ⟨t, congrArg _ ht, replies, ?_, fun _ => ⟨closes.agent_of wrapping, ?_, ?_, fun j hj => ?_, fun b hb => ?_⟩,
        fun none => absurd none ends, ?_, library.trans closes.library⟩
      · rw [closes.calls, f.drain_call_unmarked (by rw [freed_here]; rfl), freed_here]
      · exact closes.queues.trans queues
      · exact closes.readyList.trans (congrArg State.readyList rest :)
      · exact closes.call_of ((call j).trans (if_neg (Ne.symm hj)))
      · exact closes.agent_of ((agents b).trans ((s.agent_setAgent a b _).trans (if_neg (Ne.symm hb))))
      · exact closes.joinSeq.trans (congrArg State.joinSeq rest :)

end Sys2Proof.Machine
end

section
/-! PROOFS. The overflow move of a call: its departure, and what its settlement in the target keeps of its marks (R39,
R85, R149, R189). -/

namespace Sys2Proof.Machine

/-! ### What offers and treatments keep of a call's marks -/

/-- Between two states the MOVED and the WITHDRAW mark of call `k` are kept, its agent is the one it had or one of the
ready list, and no agent has joined the ready list (R39, R76, R83). -/
structure State.KeepsMarks (s t : State) (k : CallId) : Prop where
  moved : (t.call k).marks.moved = (s.call k).marks.moved
  withdraw : (t.call k).marks.withdraw = (s.call k).marks.withdraw
  agent : (t.call k).agent = (s.call k).agent ∨ ∃ a ∈ s.readyList, (t.call k).agent = some a
  ready : ∀ a ∈ t.readyList, a ∈ s.readyList

theorem State.KeepsMarks.trans {s t u : State} {k : CallId} (h : s.KeepsMarks t k) (h' : t.KeepsMarks u k) :
    s.KeepsMarks u k where
  moved := h'.moved.trans h.moved
  withdraw := h'.withdraw.trans h.withdraw
  agent := by
    rcases h'.agent with same | ⟨a, ready, e⟩
    · rw [same]; exact h.agent
    · exact .inr ⟨a, h.ready a ready, e⟩
  ready a ha := h.ready a (h'.ready a ha)

/-- A change of neither the ready list nor the marks and the agent of the call. -/
theorem State.KeepsMarks.of_same {s t : State} {k : CallId} (marks : (t.call k).marks = (s.call k).marks)
    (agent : (t.call k).agent = (s.call k).agent) (ready : t.readyList = s.readyList) : s.KeepsMarks t k :=
  ⟨by rw [marks], by rw [marks], .inl agent, fun _ ha => ready ▸ ha⟩

theorem State.offer_keepsMarks (s : State) (q : QueueId) (j k : CallId) {a : AgentId} (ha : a ∈ s.readyList) :
    s.KeepsMarks (s.offer q j a) k := by
  have ready : ∀ b ∈ (s.offer q j a).readyList, b ∈ s.readyList := fun b hb =>
    List.mem_of_mem_erase (State.offer_readyList s q j a ▸ hb)
  by_cases own : j = k
  · subst own
    have call : (s.offer q j a).call j = (s.call j).offeredTo a (s.agent a).readySince := by
      rw [State.offer_call, if_pos rfl]
    exact ⟨by rw [call]; rfl, by rw [call]; rfl, .inr ⟨a, ha, by rw [call]; rfl⟩, ready⟩
  · have call : (s.offer q j a).call k = s.call k := by rw [State.offer_call, if_neg own]
    exact ⟨by rw [call], by rw [call], .inl (by rw [call]), ready⟩

theorem State.Offers.keepsMarks {q : QueueId} {s t : State} {agents : List AgentId} (h : State.Offers q s agents t)
    (k : CallId) : s.KeepsMarks t k := by
  induction h with
  | nil s => exact .of_same rfl rfl rfl
  | cons _ chosen _ ih => exact (State.offer_keepsMarks _ _ _ _ (State.chooseAgent_mem _ _ _ chosen).1).trans ih

/-- Nor do offers touch a call's player (R75, R76). -/
theorem State.Offers.poolPlayer {q : QueueId} {s t : State} {agents : List AgentId} (h : State.Offers q s agents t)
    (k : CallId) : (t.call k).poolPlayer = (s.call k).poolPlayer := by
  induction h with
  | nil s => rfl
  | cons _ _ _ ih =>
    rw [ih, State.offer_call]
    split
    case isTrue e => subst e; rfl
    case isFalse => rfl

theorem State.beginTreatment_keepsMarks (s : State) (k : CallId) : s.KeepsMarks (s.beginTreatment k) k := by
  have only := s.beginTreatment_only k
  have begins := s.beginTreatment_begins k _ rfl
  have marks : ((s.beginTreatment k).call k).marks = { (s.call k).marks with
      audio := ((s.beginTreatment k).call k).marks.audio } := by
    by_cases silent : ((s.beginTreatment k).call k).channel = none
    · rw [(begins.unmarked silent).1]
    · rw [(begins.marked silent).1]
  exact ⟨by rw [marks], by rw [marks], .inl (by rw [only.call]), fun a ha => only.readyList ▸ ha⟩

theorem State.join_keepsMarks (s : State) (k : CallId) (q : QueueId) : s.KeepsMarks (s.join k q) k := by
  have call : (s.join k q).call k = s.joinedCall k q := by rw [State.join_call, if_pos rfl]
  exact .of_same (by rw [call]; rfl) (by rw [call]; rfl) (by rw [State.join_rest])

/-- A call that joins and settles keeps its marks, whether it is offered or treated (R29, R35, R36). -/
theorem State.settleJoin_keepsMarks (s : State) (k : CallId) (q : QueueId) :
    s.KeepsMarks ((s.join k q).settleJoin k q) k := by
  obtain ⟨agents, run, -⟩ := (s.join k q).sweep_offers q
  have swept := (s.join_keepsMarks k q).trans (run.keepsMarks k)
  unfold State.settleJoin
  dsimp only
  split
  · exact swept.trans (State.beginTreatment_keepsMarks _ k)
  · exact swept

/-- Of the players at most the one it takes for its greeting has changed (R149, R151). -/
theorem State.settleJoin_pool (s : State) (k : CallId) (q : QueueId) (none : (s.call k).poolPlayer = none) (p : PoolId)
    (other : (((s.join k q).settleJoin k q).call k).poolPlayer ≠ some p) :
    ((s.join k q).settleJoin k q).pool p = s.pool p := by
  obtain ⟨agents, run, -⟩ := (s.join k q).sweep_offers q
  have player : (((s.join k q).sweep q).call k).poolPlayer = .none := by
    rw [run.poolPlayer, State.join_call, if_pos rfl]
    exact none
  have swept : ((s.join k q).sweep q).pool p = s.pool p := by rw [run.rest, State.join_rest]; rfl
  revert other
  unfold State.settleJoin
  dsimp only
  split
  · intro other
    rw [((State.beginTreatment_begins _ k _ rfl).players player).others p other, if_neg nofun, swept]
  · exact fun _ => swept

/-! ### The departure of a call that overflows -/

theorem State.mem_markCall_backlog (s : State) (k : CallId) (kind : NoticeKind) :
    RecordRef.call k ∈ (s.markCall k kind).notices.backlog := by
  rw [State.markCall_eq]
  dsimp only
  split
  · assumption
  · exact List.mem_append_right _ List.mem_cons_self

/-- A call that stands in the backlog enters it no second time (R190). -/
theorem State.markCall_reports_listed (s : State) (k : CallId) (kind : NoticeKind) (h : kind ≠ .AGENT)
    (listed : RecordRef.call k ∈ s.notices.backlog) : s.Reports (s.markCall k kind) 0 := by
  have one := s.markCall_reports k kind h
  refine ⟨one.marks, [], ?_, Nat.le_refl 0, fun _ h => nomatch h⟩
  rw [State.markCall_eq, List.append_nil]
  exact if_pos listed

/-- The end of a treatment reports the call or nothing (R35, R151). -/
theorem State.endTreatment_reports_own (s : State) (k : CallId) : s.Reports (s.endTreatment k) 0 ∨
    s.Reports (s.endTreatment k) 1 ∧ RecordRef.call k ∈ (s.endTreatment k).notices.backlog := by
  have quiet := (s.releasePlayer_reports k).trans ((s.releasePlayer k).setAudio_reports k .SILENT none none)
  unfold State.endTreatment
  dsimp only
  split
  · exact .inr ⟨quiet.trans (State.markCall_reports _ k .AUDIO (by decide)), State.mem_markCall_backlog _ k .AUDIO⟩
  · exact .inl quiet

/-- A call once it has left its queue by its overflow timer: untreated, its move counted, and marked MOVED with the
queue it left (R39). -/
def Call.overflowing (c : Call) : Call :=
  { c.untreated.moving with
    marks := { c.untreated.marks with moved := true }
    movedFrom := if c.marks.moved then c.movedFrom else some c.queue }

/-- The queues once call `k` has left queue `old` by its overflow timer and has been counted out (R35, R39). -/
def State.overflowedOutOf (s : State) (old : QueueId) (k : CallId) (x : QueueId) : Queue :=
  if x = old then
    { s.queue x with
      counters := { (s.queue x).counters with
        movedOut := min ((s.queue x).counters.movedOut + 1) 4294967295
        overflowOut := min ((s.queue x).counters.overflowOut + 1) 4294967295 }
      waiting := (s.queue x).waiting.erase k }
  else s.queue x

/-- A MOVED mark and the queue left (R39, R189). -/
theorem State.markMoved_call (s : State) (k j : CallId) (old : QueueId) : (s.markMoved k old).call j =
    if k = j then
      { s.call k with
        marks := { (s.call k).marks with moved := true }
        movedFrom := if (s.call k).marks.moved then (s.call k).movedFrom else some old }
    else s.call j := by
  unfold State.markMoved
  rw [State.markCall_call]
  by_cases h : k = j
  · subst h; simp [Marks.set]
  · simp [h]

theorem State.markMoved_rest (s : State) (k : CallId) (old : QueueId) : s.markMoved k old =
    { s with
      calls := (s.markMoved k old).calls
      notices := { s.notices with backlog := (s.markMoved k old).notices.backlog } } := by
  unfold State.markMoved
  rw [State.markCall_eq]
  rfl

theorem State.mem_markMoved_backlog (s : State) (k : CallId) (old : QueueId) :
    RecordRef.call k ∈ (s.markMoved k old).notices.backlog := State.mem_markCall_backlog _ k .MOVED

theorem State.markMoved_reports (s : State) (k : CallId) (old : QueueId) : s.Reports (s.markMoved k old) 1 := by
  have written := s.setCall_reports k { s.call k with
    movedFrom := if (s.call k).marks.moved then (s.call k).movedFrom else some old } rfl
  exact written.trans (State.markCall_reports _ k .MOVED (by decide))

theorem State.markMoved_reports_listed (s : State) (k : CallId) (old : QueueId)
    (listed : RecordRef.call k ∈ s.notices.backlog) : s.Reports (s.markMoved k old) 0 := by
  have written := s.setCall_reports k { s.call k with
    movedFrom := if (s.call k).marks.moved then (s.call k).movedFrom else some old } rfl
  exact written.trans (State.markCall_reports_listed _ k .MOVED (by decide) listed)

/-- A call that departs from its queue by its overflow timer (R39). -/
theorem State.overflow_departs (s : State) (k : CallId) :
    s.Departs (((s.departQueue k true).countMove k).markMoved k (s.call k).queue) k (s.call k).overflowing
      (s.overflowedOutOf (s.call k).queue k) (s.call k).poolPlayer := by
  have only := s.endTreatment_only k
  have call := s.endTreatment_call k
  have pool := s.endTreatment_pool k
  have reports := s.endTreatment_reports_own k
  unfold State.departQueue
  dsimp only
  generalize s.endTreatment k = e at only call pool reports
  generalize hd : (e.leaveList (s.call k).queue k).count (s.call k).queue (·.addMovedOut true) = d
  have dCall : ∀ j, d.call j = e.call j := fun j => by rw [← hd]; rfl
  have counted : d.countMove k = d.setCall k (s.call k).untreated.moving := by
    unfold State.countMove
    rw [dCall, call]
    rfl
  have dRest : d = { e with queues := d.queues } := by rw [← hd]; rfl
  have own : (d.setCall k (s.call k).untreated.moving).call k = (s.call k).untreated.moving := by simp
  have rest := (d.setCall k (s.call k).untreated.moving).markMoved_rest k (s.call k).queue
  rw [counted]
  refine ⟨?_, ?_, fun j hj => ?_, fun r => ?_, fun p => ?_, ?_⟩
  · rw [rest, dRest, only.rest]; rfl
  · rw [State.markMoved_call, if_pos rfl, own]; rfl
  · rw [State.markMoved_call, if_neg (Ne.symm hj), State.call_setCall, if_neg (Ne.symm hj), dCall, only.others j hj]
  · rw [rest]
    show d.queue r = _
    have queue : ∀ x, e.queue x = s.queue x := only.queue
    unfold State.overflowedOutOf
    rw [← hd]
    by_cases hr : r = (s.call k).queue
    · subst hr
      simp [State.leaveList, State.count, QueueCounters.addMovedOut, queue, satAdd, Config.maxU32]
    · simp [State.leaveList, State.count, queue, hr, Ne.symm hr]
  · rw [rest]
    show d.pool p = _
    rw [← hd]
    exact pool p
  · have listed : e.Reports d 0 := by
      rw [← hd]; exact .of_same (fun r => by cases r <;> rfl) rfl
    have moves := listed.trans (d.setCall_reports k (s.call k).untreated.moving (by rw [dCall, call]; rfl))
    rcases reports with quiet | ⟨heard, stands⟩
    · exact (quiet.trans moves).trans (State.markMoved_reports _ k _)
    · exact (heard.trans moves).trans (State.markMoved_reports_listed _ k _ (moves.mem stands))

/-! ### The overflow move -/

/-- Call `k` has moved to queue `q` by its overflow timer between two states and has settled there (R39). -/
structure State.Overflows (s m : State) (k : CallId) (q : QueueId) : Prop where
  rest : m = { s with
    queues := m.queues, joinSeq := m.joinSeq, calls := m.calls, readyList := m.readyList
    agents := m.agents, treatment := { s.treatment with pool := m.treatment.pool }
    notices := { s.notices with backlog := m.notices.backlog } }
  call : m.call k =
    { (s.call k).overflowing with
      state := (m.call k).state, queue := q, entry := (m.call k).entry, joinSeq := (m.call k).joinSeq
      agent := (m.call k).agent, savedReadySince := (m.call k).savedReadySince
      offerPosted := (m.call k).offerPosted, offerDeadline := (m.call k).offerDeadline, audio := (m.call k).audio
      channel := (m.call k).channel, poolPlayer := (m.call k).poolPlayer
      nextAnnouncement := (m.call k).nextAnnouncement, marks := (m.call k).marks }
  state : (m.call k).state = .QUEUED ∨ (m.call k).state = .OFFERED
  moved : (m.call k).marks.moved = true
  withdraw : (m.call k).marks.withdraw = (s.call k).marks.withdraw
  agent : (m.call k).agent = (s.call k).agent ∨ ∃ a ∈ s.readyList, (m.call k).agent = some a
  unready : ∀ a, a ∉ s.readyList → m.agent a = s.agent a
  listed : RecordRef.call k ∈ m.notices.backlog
  released : ∀ p, (s.call k).poolPlayer = some p → (m.call k).poolPlayer ≠ some p → m.pool p = State.reset.pool p
  reports : s.Reports m 1026
  rejoins : q ≠ (s.call k).queue →
    s.Rejoins m k q (s.call k).overflowing (s.overflowedOutOf (s.call k).queue k) (s.call k).poolPlayer

theorem State.overflowMove_overflows {s : State} {k : CallId} {q : QueueId} (ready : s.readyList.Nodup)
    (list : (s.queue q).waiting.Nodup) (outside : k ∉ (s.queue q).waiting) :
    s.Overflows (s.overflowMove k q) k q := by
  have departs := s.overflow_departs k
  have listed := State.mem_markMoved_backlog ((s.departQueue k true).countMove k) k (s.call k).queue
  unfold State.overflowMove
  dsimp only
  generalize ((s.departQueue k true).countMove k).markMoved k (s.call k).queue = b at departs listed
  have there : (b.queue q).waiting.Sublist (s.queue q).waiting := by
    rw [departs.queue, State.overflowedOutOf]
    split
    · exact List.erase_sublist
    · exact .refl _
  have settles : b.Settles ((b.join k q).settleJoin k q) k q := State.settles (departs.readyList ▸ ready)
    (list.sublist there) fun h => outside (there.mem h)
  have keeps := b.settleJoin_keepsMarks k q
  have pool := b.settleJoin_pool k q (by rw [departs.call]; rfl)
  have rejoins := fun apart : q ≠ (s.call k).queue =>
    State.Departs.rejoins (.refl s) departs (if_neg apart) rfl ready list outside
  have call := settles.call
  rw [State.joinedCall, departs.call] at call
  refine ⟨?_, ?_, settles.state, ?_, ?_, ?_, fun a ha => ?_, settles.reports.mem listed, fun p held other => ?_,
    departs.reports.trans settles.reports, rejoins⟩
  · rw [settles.rest, departs.rest]
  · rw [call]
  · rw [keeps.moved, departs.call]; rfl
  · rw [keeps.withdraw, departs.call]; rfl
  · have agent := keeps.agent
    rw [departs.call, departs.readyList] at agent
    exact agent
  · rw [(settles.unready a (departs.readyList ▸ ha)).1, departs.agent]
  · rw [pool p other, departs.pool, if_pos held]
    exact (Vector.getElem_replicate _).symm

/-- A command that ends in a drain closes with it (R191). -/
theorem State.drain_closes (u : State) : u.Closes u.drain := by
  have only := u.drain_only
  have port := only.port
  exact ⟨rfl, rfl, rfl, only.queues, only.joinSeq, only.readyList, only.treatment, fun _ => rfl, fun _ => rfl,
    only.store, congrArg Treatment.broadcast only.treatment, congrArg Treatment.programmes only.treatment,
    congrArg Treatment.speech only.treatment, only.timeBase,
    ⟨(congrArg Port.setup port :), (congrArg Port.enables port :)⟩,
    ⟨(congrArg Port.address port :), (congrArg Port.overrun port :)⟩,
    ⟨(congrArg Port.lastClass port :), (congrArg Port.lastReason port :)⟩,
    ⟨(congrArg (·.causes.reply) port :), (congrArg (·.causes.clock) port :)⟩, only.taken, State.drainBy_loadReads _ _,
    ⟨only.frame, only.framesSent⟩, only.pending⟩

theorem State.drain_port (u : State) : u.drain.port.state = u.port.state ∧ u.drain.port.reply = u.port.reply :=
  ⟨(congrArg Port.state u.drain_only.port :), (congrArg Port.reply u.drain_only.port :)⟩

end Sys2Proof.Machine
end

section
/-! PROOFS. O45: the expiry of an overflow timer moves the call, marks it due or spends its overflow (R38 to R40). -/

namespace Sys2Proof.Machine

/-! ### The expiry -/

/-- The overflow timer as R38 arms it. -/
theorem State.overflowArmed_iff (s : State) (k : CallId) : s.overflowArmed k = true ↔
    ((s.call k).state = .QUEUED ∨ (s.call k).state = .OFFERED) ∧
      (s.queue (s.call k).queue).params.overflowAfter ≠ 0 ∧
      (s.queue (s.call k).queue).params.overflowTarget ≠ none ∧ (s.call k).moveCount < 4 ∧
      (s.call k).overflowSpent = false ∧ (s.call k).overflowDue = false := by
  simp only [State.overflowArmed, Bool.and_eq_true, Bool.or_eq_true, beq_iff_eq, decide_eq_true_eq,
    Option.isSome_iff_ne_none, Bool.not_eq_true', Nat.pos_iff_ne_zero, and_assoc]

/-- The overflow timer of a call is armed, and its deadline has come (R38, R168). -/
def State.OverflowExpires (s : State) (k : CallId) : Prop :=
  (((s.call k).state = .QUEUED ∨ (s.call k).state = .OFFERED) ∧
    (s.queue (s.call k).queue).params.overflowAfter ≠ 0 ∧
    (s.queue (s.call k).queue).params.overflowTarget ≠ none ∧ (s.call k).moveCount < 4 ∧
    (s.call k).overflowSpent = false ∧ (s.call k).overflowDue = false) ∧
  min ((s.call k).entry + (s.queue (s.call k).queue).params.overflowAfter) 4294967295 ≤ s.now

/-- OVERFLOW_EXPIRY by the timer and the state of the call (R38 to R40). -/
theorem State.overflowExpiry_eq (s : State) (k : CallId) : exec (.overflowExpiry k) s =
    if s.overflowArmed k = true ∧ s.overflowDeadline k ≤ s.now then
      if (s.call k).state = .QUEUED then .next (s.overflowAttempt k).drain
      else .next (s.setCall k { s.call k with overflowDue := true })
    else .next s := rfl

theorem State.overflowExpires_iff (s : State) (k : CallId) :
    (s.overflowArmed k = true ∧ s.overflowDeadline k ≤ s.now) ↔ s.OverflowExpires k := by
  rw [s.overflowArmed_iff k]
  rfl

/-- An attempt on a target that accepts is the overflow move (R39). -/
theorem State.overflowAttempt_accepted {s : State} {k : CallId} {q : QueueId}
    (target : (s.queue (s.call k).queue).params.overflowTarget = some q) (admits : s.Admits q) :
    s.overflowAttempt k = s.overflowMove k q := by
  unfold State.overflowAttempt
  simp only [target, (s.accepts_iff q).mpr admits, if_true]

/-- An attempt on a target that refuses counts the diversion and spends the overflow (R11, R39, R40). -/
theorem State.overflowAttempt_refused {s : State} {k : CallId} {q : QueueId}
    (target : (s.queue (s.call k).queue).params.overflowTarget = some q) (refuses : ¬ s.Admits q) :
    s.overflowAttempt k = (s.divert q).setCall k { s.call k with overflowSpent := true } := by
  unfold State.overflowAttempt
  simp only [target, mt (s.accepts_iff q).mp refuses, (s.divert_only q).call k]
  rfl

theorem State.divert_eq_set (s : State) (q : QueueId) :
    s.divert q = { s with queues := s.queues.set q.val (s.queue q).divertedOnce } := by
  rw [State.divert_eq, Queue.divertedOnce]
  split
  · rfl
  · rw [show s.queues.set q.val (s.queue q) = s.queues from Vector.set_getElem_self _]

/-- A diversion touches nothing the notice unit drains (R190). -/
theorem State.overflow_spent_drain {s : State} (law : s.NoticeLaw) (q : QueueId) (k : CallId) (c : Call) :
    ((s.divert q).setCall k c).drain =
      { s with queues := s.queues.set q.val (s.queue q).divertedOnce, calls := s.calls.set k.val c } := by
  rw [State.divert_eq_set]
  exact law.drain_eq rfl rfl

/-- A call heard on a channel when it overflows is marked AUDIO at its departure (R39, R151). -/
theorem Call.overflowing_heard {c : Call} (heard : c.channel ≠ none) : c.overflowing.marks.audio = true := by
  simpa [Call.overflowing, Call.untreated, Option.isSome_iff_ne_none] using .inr heard

theorem Call.SameButNotices.overflowDue {c d : Call} (h : c.SameButNotices d) : d.overflowDue = c.overflowDue :=
  (congrArg Call.overflowDue h :)

/-- Settles O45: an armed timer whose deadline has come moves a QUEUED call to a target that accepts, where it settles;
its overflow is spent where the target refuses, and due where the call is OFFERED. -/
theorem overflowExpiriesMoveOrSpend : Obligations.OverflowExpiriesMoveOrSpend := by
  intro k s agree law c r armed expires
  have expiry := s.overflowExpiry_eq k
  have iff : _ ↔ expires := s.overflowExpires_iff k
  refine ⟨fun waits => ?_, fun due offered => ?_, fun q due queued target refuses => ?_,
    fun q due queued target admits apart => ?_⟩
  · rw [expiry, if_neg (mt iff.mp waits)]
  · rw [expiry, if_pos (iff.mpr due), if_neg (by rw [show (s.call k).state = .OFFERED from offered]; decide)]
    rfl
  · rw [expiry, if_pos (iff.mpr due), if_pos queued, State.overflowAttempt_refused target refuses,
      State.overflow_spent_drain law]
  · have outside : k ∉ (s.queue q).waiting := fun h => apart ((agree.listed q k).mp h).2.symm
    have overflows := State.overflowMove_overflows agree.readyNodup (agree.listNodup q) outside
    rw [expiry, if_pos (iff.mpr due), if_pos queued, State.overflowAttempt_accepted target admits]
    generalize s.overflowMove k q = u at overflows
    have closes := u.drain_closes
    have port := u.drain_port
    generalize ht : u.drain = t at closes port
    have rejoins := overflows.rejoins apart
    have same := closes.call_same k
    have call := rejoins.call
    have drained : s.ringRoom = 0 → t = u := fun full =>
      ht.symm.trans (u.drain_full (by rw [rejoins.rest]; exact full))
    obtain ⟨⟨_, _, _, moves, _, _⟩, _⟩ := due
    refine ⟨t, rfl, ?_, ?_, ?_, ?_, ?_, ?_, ?_, ?_, ?_, ?_, ?_, ?_, ?_, fun x hx hx' => ?_, fun full => ?_,
      fun p held other => ?_, fun offered => ?_, ?_, ?_, ?_, fun none => ?_⟩
    · rw [same.state]; exact rejoins.state
    · rw [same.queue, call]
    · rw [same.joinSeq, call]
    · rw [same.entry, call]; rfl
    · rw [same.moveCount, call]
      exact Nat.min_eq_left moves
    · rw [same.overflowSpent, call]; rfl
    · rw [same.overflowDue, call]; rfl
    · rw [same.gen, call]; rfl
    · rw [same.arrival, call]; rfl
    · rw [same.cls, call]; rfl
    · rw [closes.joinSeq, rejoins.rest]
    · rw [closes.queue, rejoins.otherQueues _ apart.symm, State.overflowedOutOf, if_pos rfl]
    · rw [closes.queue, rejoins.queue]; rfl
    · rw [closes.queue, rejoins.otherQueues x hx, State.overflowedOutOf, if_neg hx']
    · rw [drained full]
      refine ⟨overflows.moved, overflows.listed, by rw [call]; rfl, fun heard => rejoins.audio ?_⟩
      exact Call.overflowing_heard heard
    · rw [closes.pool]
      exact overflows.released p held (same.poolPlayer ▸ other)
    · rw [same.state] at offered
      rw [same.audio, same.channel, same.poolPlayer, same.nextAnnouncement]
      exact rejoins.untreated offered
    · rw [port.1, rejoins.rest]
    · rw [port.2, rejoins.rest]
    · exact rejoins.sameLibrary.trans closes.library
    · have awaits := rejoins.waits none
      obtain ⟨d, treated, audio, channel, next, player⟩ := awaits.treated
      refine ⟨?_, ?_, ⟨d, treated, ?_, ?_, ?_, ?_⟩, ?_, fun heard => ?_, fun j hj => ?_, ?_, fun a => ?_⟩
      · rw [closes.queue]; exact awaits.waiting
      · exact same.state.trans awaits.state
      · exact same.audio.trans audio
      · exact same.channel.trans channel
      · exact same.poolPlayer.trans (player rfl)
      · exact same.nextAnnouncement.trans next
      · exact (awaits.players rfl).closed closes
      · obtain ⟨marks, listed⟩ := awaits.heard (same.channel ▸ heard)
        exact rejoins.reports.audioReported (by decide) closes (by rw [rejoins.rest]; rfl) (by rw [rejoins.rest]) listed
          marks
      · exact closes.call_of (awaits.others j hj)
      · rw [closes.readyList, awaits.readyList]
      · exact closes.agent_of (awaits.agents a)

end Sys2Proof.Machine
end

section
/-! PROOFS. A call withdrawn from an expired offer, and its return to its own queue (R83, R84, R86). -/

namespace Sys2Proof.Machine

/-! ### The withdrawal -/

/-- An agent sent AWAY at part time `now` by the expiry of an offer (R83). -/
def Agent.wentAway (g : Agent) (now : Nat) : Agent :=
  { g with
    state := .AWAY, awayReason := 15, call := none, stateEntry := now
    counters := { g.counters with ronaCount := min (g.counters.ronaCount + 1) 4294967295 } }

/-- A call withdrawn from agent `a`, with its mark (R83). -/
def Call.withdrawnFrom (c : Call) (a : AgentId) : Call :=
  { c with
    agent := none, savedReadySince := none, offerDeadline := none, offerPosted := false, withdrawnAgent := some a
    marks := { c.marks with withdraw := true } }

/-- Call `k` has been withdrawn from agent `a` between two states: its record is `c`, the queues are `queues`, and no
other call and no other agent has changed (R83). -/
structure State.Withdraws (s v : State) (k : CallId) (a : AgentId) (c : Call) (queues : QueueId → Queue) : Prop where
  rest : v = { s with
    queues := v.queues, calls := v.calls, agents := v.agents
    notices := { s.notices with backlog := v.notices.backlog } }
  queue : ∀ x, v.queue x = queues x
  call : v.call k = c
  others : ∀ j, j ≠ k → v.call j = s.call j
  agent : v.agent a = { (s.agent a).wentAway s.now with mark := true }
  otherAgents : ∀ b, b ≠ a → v.agent b = s.agent b
  listedAgent : RecordRef.agent a ∈ v.notices.backlog
  listedCall : RecordRef.call k ∈ v.notices.backlog
  reports : s.Reports v 2

theorem State.releaseAgent_reports (s : State) (a : AgentId) : s.Reports (s.releaseAgent a) 1 :=
  (s.setAgent_reports a ((s.agent a).wentAway s.now) rfl).trans (State.markAgent_reports _ a)

theorem State.releaseAgent_agent (s : State) (a b : AgentId) : (s.releaseAgent a).agent b =
    if a = b then { (s.agent a).wentAway s.now with mark := true } else s.agent b := by
  have released : s.releaseAgent a = (s.setAgent a ((s.agent a).wentAway s.now)).markAgent a := rfl
  rw [released, State.markAgent_agent]
  by_cases h : a = b
  · subst h; simp
  · simp [h]

theorem State.releaseAgent_rest (s : State) (a : AgentId) : s.releaseAgent a =
    { s with
      agents := (s.releaseAgent a).agents
      notices := { s.notices with backlog := (s.releaseAgent a).notices.backlog } } := by
  unfold State.releaseAgent
  rw [State.markAgent_eq]
  rfl

theorem State.withdraw_reports (s : State) (k : CallId) (a : AgentId) : s.Reports (s.withdraw k a) 1 := by
  have written := s.setCall_reports k { s.call k with
    agent := none, savedReadySince := none, offerDeadline := none, offerPosted := false, withdrawnAgent := some a } rfl
  exact written.trans (State.markCall_reports _ k .WITHDRAW (by decide))

theorem State.withdraw_call (s : State) (k : CallId) (a : AgentId) (j : CallId) : (s.withdraw k a).call j =
    if k = j then (s.call k).withdrawnFrom a else s.call j := by
  unfold State.withdraw
  rw [State.markCall_call]
  by_cases h : k = j
  · subst h; simp [Marks.set, Call.withdrawnFrom]
  · simp [h]

theorem State.withdraw_rest (s : State) (k : CallId) (a : AgentId) : s.withdraw k a =
    { s with
      calls := (s.withdraw k a).calls
      notices := { s.notices with backlog := (s.withdraw k a).notices.backlog } } := by
  unfold State.withdraw
  rw [State.markCall_eq]
  rfl

/-- The release of the agent and the withdrawal of the call (R83). -/
theorem State.withdraw_withdraws (s : State) (k : CallId) (a : AgentId) :
    s.Withdraws ((s.releaseAgent a).withdraw k a) k a ((s.call k).withdrawnFrom a) s.queue := by
  have released := s.releaseAgent_agent a
  have rest := s.releaseAgent_rest a
  have reports := s.releaseAgent_reports a
  have listed : RecordRef.agent a ∈ (s.releaseAgent a).notices.backlog := State.mem_markAgent_backlog _ a
  generalize s.releaseAgent a = u at released rest reports listed
  have call : ∀ j, u.call j = s.call j := fun j => by rw [rest]; rfl
  have agent : ∀ b, (u.withdraw k a).agent b = u.agent b := fun b => by rw [State.withdraw_rest]; rfl
  have withdrawn := u.withdraw_reports k a
  refine ⟨?_, fun x => ?_, ?_, fun j hj => ?_, ?_, fun b hb => ?_, withdrawn.mem listed,
    State.mem_markCall_backlog _ k .WITHDRAW, reports.trans withdrawn⟩
  · rw [State.withdraw_rest, rest]
  · rw [State.withdraw_rest, rest]; rfl
  · rw [State.withdraw_call, if_pos rfl, call]
  · rw [State.withdraw_call, if_neg (Ne.symm hj), call]
  · rw [agent, released, if_pos rfl]
  · rw [agent, released, if_neg (Ne.symm hb)]

/-- And the overflow spent on a target that refuses, its diversion counted (R11, R85). -/
theorem State.Withdraws.spends {s v : State} {k : CallId} {a : AgentId} {c : Call} {queues : QueueId → Queue}
    (h : s.Withdraws v k a c queues) (q : QueueId) :
    s.Withdraws ((v.divert q).setCall k { c with overflowSpent := true }) k a { c with overflowSpent := true }
      (fun x => if q = x then (queues q).divertedOnce else queues x) := by
  have only := v.divert_only q
  have reports : v.Reports (v.divert q) 0 := .of_same (fun r => by cases r <;> rw [only.rest] <;> rfl) (by rw [only.rest])
  have marks : ({ c with overflowSpent := true } : Call).marks = ((v.divert q).call k).marks := by
    rw [only.call, h.call]
  have written := (v.divert q).setCall_reports k { c with overflowSpent := true } marks
  refine ⟨?_, fun x => ?_, by simp, fun j hj => ?_, ?_, fun b hb => ?_, ?_, ?_,
    (h.reports.trans reports).trans written⟩
  · show ({ v.divert q with calls := _ } : State) = _
    rw [only.rest, h.rest]
    rfl
  · rw [State.queue_setCall, State.divert_queue_eq, h.queue, h.queue]
  · rw [State.call_setCall, if_neg (Ne.symm hj), only.call, h.others j hj]
  · exact (only.agent a).trans h.agent
  · exact (only.agent b).trans (h.otherAgents b hb)
  · exact reports.mem h.listedAgent
  · exact reports.mem h.listedCall

end Sys2Proof.Machine
end

section
/-! PROOFS. The return of a withdrawn call to its own queue: its keyed place, its treatment, and the sweep (R84, R86). -/

namespace Sys2Proof.Machine

/-- A call with no audio, no channel and no next announcement, whose treatment begins when it returns (R86). -/
def Call.Untended (c : Call) : Prop := c.audio = .SILENT ∧ c.channel = none ∧ c.nextAnnouncement = none

/-- Call `k` has returned to queue `q` between two states, where nothing can be offered, and waits there (R84, R86). -/
structure State.ReturnsToWait (v u : State) (k : CallId) (q : QueueId) : Prop where
  state : (u.call k).state = .QUEUED
  waiting : (u.queue q).waiting.Perm (k :: (v.queue q).waiting)
  begins : (v.call k).Untended → v.BeginsTreatment u q k
  stands : ¬ (v.call k).Untended → (u.call k).audio = (v.call k).audio ∧ (u.call k).channel = (v.call k).channel ∧
    (u.call k).poolPlayer = (v.call k).poolPlayer ∧ (u.call k).nextAnnouncement = (v.call k).nextAnnouncement ∧
    u.treatment = v.treatment
  others : ∀ j, j ≠ k → u.call j = v.call j
  readyList : u.readyList = v.readyList
  agents : ∀ a, u.agent a = v.agent a

/-- Call `k` has returned to queue `q` between two states, to wait there or to be offered (R84, R86). -/
structure State.ReturnsCall (v u : State) (k : CallId) (q : QueueId) : Prop where
  rest : u = { v with
    queues := u.queues, calls := u.calls, readyList := u.readyList, agents := u.agents
    treatment := { v.treatment with pool := u.treatment.pool }
    notices := { v.notices with backlog := u.notices.backlog } }
  call : u.call k =
    { v.call k with
      overflowDue := false, state := (u.call k).state, agent := (u.call k).agent
      savedReadySince := (u.call k).savedReadySince, offerPosted := (u.call k).offerPosted
      offerDeadline := (u.call k).offerDeadline, audio := (u.call k).audio, channel := (u.call k).channel
      poolPlayer := (u.call k).poolPlayer, nextAnnouncement := (u.call k).nextAnnouncement
      marks := (u.call k).marks }
  state : (u.call k).state = .QUEUED ∨ (u.call k).state = .OFFERED
  keeps : v.KeepsMarks u k
  queue : ∀ x, u.queue x = { v.queue x with waiting := (u.queue x).waiting }
  unready : ∀ a, a ∉ v.readyList → u.agent a = v.agent a
  reports : v.Reports u 1025
  waits : v.NoOffer q → v.ReturnsToWait u k q

/-- A treatment begun in a state that differs in what a treatment does not look at (R149, R151). -/
theorem State.BeginsTreatment.congr {s v u : State} {q : QueueId} {k : CallId} (h : v.BeginsTreatment u q k)
    (params : (v.queue q).params = (s.queue q).params) (store : v.store = s.store) (now : v.now = s.now)
    (pool : ∀ p, v.pool p = s.pool p) (notices : v.notices = s.notices) (handle : v.handle k = s.handle k)
    (player : (v.call k).poolPlayer = (s.call k).poolPlayer) (marks : (v.call k).marks = (s.call k).marks)
    (reports : s.Reports v 0) : s.BeginsTreatment u q k := by
  obtain ⟨⟨d, treated, audio, channel, next, held⟩, players, marked, unmarked, more⟩ := h
  rw [player] at held players
  rw [marks, notices] at marked unmarked
  refine ⟨⟨d, treated.congr params store now fun p => by rw [pool], audio, channel, next, held⟩, fun none => ?_, marked,
    unmarked, by simpa using reports.trans more⟩
  exact (players none).congr params store handle fun p => by rw [if_neg nofun, pool]

/-! ### The return -/

/-- A withdrawn call back in QUEUED at its keyed place, before its treatment and the sweep (R84). -/
def State.backInQueue (v : State) (k : CallId) : State :=
  (v.setCall k { v.call k with state := .QUEUED, overflowDue := false }).enterList (v.call k).queue k

section
variable (v : State) (k : CallId)

theorem State.backInQueue_rest :
    v.backInQueue k = { v with queues := (v.backInQueue k).queues, calls := (v.backInQueue k).calls } := rfl

theorem State.backInQueue_call (j : CallId) : (v.backInQueue k).call j =
    if k = j then { v.call k with state := .QUEUED, overflowDue := false } else v.call j :=
  v.call_setCall k j _

theorem State.backInQueue_queue (x : QueueId) :
    (v.backInQueue k).queue x = { v.queue x with waiting := ((v.backInQueue k).queue x).waiting } := by
  unfold State.backInQueue State.enterList
  rw [State.queue_setWaiting]
  split
  case isTrue e => subst e; rfl
  case isFalse => rfl

theorem State.backInQueue_waiting :
    ((v.backInQueue k).queue (v.call k).queue).waiting.Perm (k :: (v.queue (v.call k).queue).waiting) := by
  unfold State.backInQueue State.enterList
  rw [State.queue_setWaiting, if_pos rfl]
  exact State.keyedInsert_perm _ _ _ _

theorem State.backInQueue_reports : v.Reports (v.backInQueue k) 0 := by
  have written := v.setCall_reports k { v.call k with state := .QUEUED, overflowDue := false } rfl
  have placed : (v.setCall k { v.call k with state := .QUEUED, overflowDue := false }).Reports (v.backInQueue k) 0 :=
    .of_same (fun r => by cases r <;> rfl) rfl
  exact written.trans placed

/-- The treatment of a returned call, which begins where it has none (R86). -/
def State.tended : State :=
  if (v.call k).audio = .SILENT ∧ (v.call k).channel = none ∧ (v.call k).nextAnnouncement = none then
    (v.backInQueue k).beginTreatment k
  else v.backInQueue k

theorem State.returnCall_eq : v.returnCall k = (v.tended k).sweep (v.call k).queue := rfl

theorem State.tended_only : (v.backInQueue k).OnlyTreatment (v.tended k) k := by
  unfold State.tended
  split
  · exact State.beginTreatment_only _ k
  · exact .refl _ k

theorem State.tended_begun (h : (v.call k).Untended) : v.tended k = (v.backInQueue k).beginTreatment k := if_pos h

theorem State.tended_begins (h : (v.call k).Untended) :
    (v.backInQueue k).BeginsTreatment (v.tended k) (v.call k).queue k := by
  rw [v.tended_begun k h]
  exact State.beginTreatment_begins _ k _ (by rw [State.backInQueue_call, if_pos rfl])

theorem State.tended_stands (h : ¬ (v.call k).Untended) : v.tended k = v.backInQueue k := if_neg h

theorem State.tended_keepsMarks : v.KeepsMarks (v.tended k) k := by
  have back : v.KeepsMarks (v.backInQueue k) k := by
    have call := v.backInQueue_call k k
    rw [if_pos rfl] at call
    exact .of_same (by rw [call]) (by rw [call]) rfl
  by_cases h : (v.call k).Untended
  · rw [v.tended_begun k h]
    exact back.trans (State.beginTreatment_keepsMarks _ k)
  · rw [v.tended_stands k h]
    exact back

theorem State.tended_reports : v.Reports (v.tended k) 1 := by
  by_cases h : (v.call k).Untended
  · exact (v.backInQueue_reports k).trans (v.tended_begins k h).reports
  · rw [v.tended_stands k h]
    exact (v.backInQueue_reports k).mono (Nat.zero_le 1)

end

/-- Where nothing can be offered the call waits, and the sweep does nothing (R68, R86). -/
theorem State.NoOffer.returns {v : State} {k : CallId} {q : QueueId} (none : v.NoOffer q) (own : (v.call k).queue = q) :
    v.ReturnsToWait ((v.tended k).sweep q) k q := by
  have rest := v.backInQueue_rest k
  have back := v.backInQueue_call k
  have only := v.tended_only k
  have backCall := back k
  rw [if_pos rfl] at backCall
  have queue : ∀ x, (v.tended k).queue x = (v.backInQueue k).queue x := only.queue
  have kept : ((v.tended k).queue q).params = (v.queue q).params ∧ ((v.tended k).queue q).mode = (v.queue q).mode := by
    rw [queue, State.backInQueue_queue]; exact ⟨rfl, rfl⟩
  have noneThere : (v.tended k).NoOffer q := none.congr kept.2 kept.1 (only.readyList.trans (by rw [rest]))
    fun a _ => (only.agent a).trans (by rw [rest]; rfl)
  rw [noneThere.sweep]
  subst own
  refine ⟨?_, ?_, fun untended => ?_, fun tended => ?_, fun j hj => ?_, ?_, fun a => ?_⟩
  · rw [only.state, backCall]
  · rw [queue]; exact v.backInQueue_waiting k
  · refine (v.tended_begins k untended).congr (by rw [State.backInQueue_queue]) rfl rfl (fun _ => rfl) rfl ?_ ?_ ?_
      (v.backInQueue_reports k)
    · rw [State.handle, backCall]; rfl
    · rw [backCall]
    · rw [backCall]
  · rw [v.tended_stands k tended, backCall]
    exact ⟨rfl, rfl, rfl, rfl, rfl⟩
  · rw [only.others j hj, back, if_neg (Ne.symm hj)]
  · exact only.readyList
  · exact only.agent a

/-- The return of a withdrawn call (R84, R86). -/
theorem State.returnCall_returns {v : State} {k : CallId} {q : QueueId} (own : (v.call k).queue = q)
    (ready : v.readyList.Nodup) (list : (v.queue q).waiting.Nodup) (outside : k ∉ (v.queue q).waiting) :
    v.ReturnsCall (v.returnCall k) k q := by
  have only := v.tended_only k
  have keeps := v.tended_keepsMarks k
  have reports := v.tended_reports k
  have waits := fun none : v.NoOffer q => none.returns own
  have waiting : ((v.tended k).queue q).waiting.Nodup := by
    rw [only.queue, ← own]
    exact (v.backInQueue_waiting k).nodup_iff.mpr (List.nodup_cons.mpr ⟨own ▸ outside, own ▸ list⟩)
  have call := only.call
  have rest := only.rest
  have queue : ∀ x, (v.tended k).queue x = { v.queue x with waiting := ((v.tended k).queue x).waiting } := fun x => by
    rw [only.queue]; exact v.backInQueue_queue k x
  have agent : ∀ a, (v.tended k).agent a = v.agent a := only.agent
  have readyList : (v.tended k).readyList = v.readyList := only.readyList
  rw [State.backInQueue_call, if_pos rfl] at call
  rw [State.backInQueue_rest] at rest
  rw [State.returnCall_eq, own]
  generalize v.tended k = b at *
  obtain ⟨agents, run, -⟩ := b.sweep_offers q
  generalize b.sweep q = u at run waits
  have state : (b.call k).state = .QUEUED := by rw [call]
  have may : (b.call k).MayBeOffered (u.call k) := run.call_cases waiting (readyList ▸ ready) k
  refine ⟨?_, ?_, may.state.imp (·.trans state) id, keeps.trans (run.keepsMarks k), fun x => ?_, fun a ha => ?_, ?_, waits⟩
  · rw [run.rest, rest]
  · rw [may.fields, call]
  · rw [run.queue_rest, queue]
  · rw [(run.agent_outside (readyList ▸ ready) (readyList ▸ ha)).1, agent]
  · exact reports.trans (run.reports.mono (run.agents_length (readyList ▸ ready)))

end Sys2Proof.Machine
end

section
/-! PROOFS. O44: the expiry of an offer sends the agent AWAY, and its call returns to its queue or overflows (R39, R83
to R86). -/

namespace Sys2Proof.Machine

/-! ### The state of a withdrawn call -/

/-- The count of offered calls looks at the state and the queue of each call (R7). -/
theorem State.offeredCount_congr {s t : State} (state : ∀ j, (t.call j).state = (s.call j).state)
    (queue : ∀ j, (t.call j).queue = (s.call j).queue) (q : QueueId) : t.offeredCount q = s.offeredCount q := by
  have keys : t.calls.toList.map (fun c => c.state == .OFFERED && c.queue == q) =
      s.calls.toList.map (fun c => c.state == .OFFERED && c.queue == q) := by
    refine List.ext_getElem (by simp) fun i hi _ => ?_
    have hi' : i < 2048 := by simpa using hi
    have := state ⟨i, hi'⟩
    have := queue ⟨i, hi'⟩
    simp_all [State.call]
  have counts : ∀ l : List Call, l.countP (fun c => c.state == .OFFERED && c.queue == q) =
      (l.map fun c => c.state == .OFFERED && c.queue == q).countP id := fun l => by rw [List.countP_map]; rfl
  rw [State.offeredCount, State.offeredCount, counts, counts, keys]

namespace State.Withdraws

variable {s v : State} {k : CallId} {a : AgentId} {c : Call} {queues : QueueId → Queue}
  (h : s.Withdraws v k a c queues)
include h

theorem now : v.now = s.now := by rw [h.rest]; rfl
theorem store : v.store = s.store := by rw [h.rest]
theorem joinSeq : v.joinSeq = s.joinSeq := by rw [h.rest]
theorem readyList : v.readyList = s.readyList := by rw [h.rest]
theorem pool (p : PoolId) : v.pool p = s.pool p := by rw [h.rest]; rfl

/-- A call that is withdrawn counts as offered until it is settled (R7, R85). -/
theorem admits (state : c.state = (s.call k).state) (own : c.queue = (s.call k).queue)
    (same : ∀ x, queues x = s.queue x) (q : QueueId) : v.Admits q ↔ s.Admits q := by
  have kept : ∀ j, (v.call j).state = (s.call j).state ∧ (v.call j).queue = (s.call j).queue := fun j => by
    by_cases hj : j = k
    · rw [hj, h.call]; exact ⟨state, own⟩
    · rw [h.others j hj]; exact ⟨rfl, rfl⟩
  rw [State.Admits, State.Admits, h.queue, same, State.offeredCount_congr (fun j => (kept j).1) fun j => (kept j).2]

/-- The agent that goes AWAY was not in the ready list, so the same can be offered (R68). -/
theorem noOffer (outside : a ∉ s.readyList) {q : QueueId} (params : (queues q).params = (s.queue q).params)
    (mode : (queues q).mode = (s.queue q).mode) (none : s.NoOffer q) : v.NoOffer q :=
  none.congr (by rw [h.queue, mode]) (by rw [h.queue, params]) h.readyList
    fun b hb => h.otherAgents b fun e => outside (e ▸ hb)

end State.Withdraws

/-! ### What becomes of it -/

/-- The overflow of call `k` is due, and queue `q` is its target and accepts (R85). -/
def State.OverflowMoves (s : State) (k : CallId) (q : QueueId) : Prop :=
  (s.call k).overflowDue = true ∧ (s.queue (s.call k).queue).params.overflowTarget = some q ∧ s.Admits q

/-- The overflow of call `k` is due, and queue `q` is its target and refuses (R85). -/
def State.OverflowSpends (s : State) (k : CallId) (q : QueueId) : Prop :=
  (s.call k).overflowDue = true ∧ (s.queue (s.call k).queue).params.overflowTarget = some q ∧ ¬ s.Admits q

section
variable {v : State} {k : CallId}

theorem State.settleWithdrawn_moves {q : QueueId} (h : v.OverflowMoves k q) :
    v.settleWithdrawn k = v.overflowMove k q := by
  obtain ⟨due, target, admits⟩ := h
  unfold State.settleWithdrawn
  simp only [due, target, (v.accepts_iff q).mpr admits, if_true]

theorem State.settleWithdrawn_spends {q : QueueId} (h : v.OverflowSpends k q) :
    v.settleWithdrawn k = ((v.divert q).setCall k { v.call k with overflowSpent := true }).returnCall k := by
  obtain ⟨due, target, refuses⟩ := h
  unfold State.settleWithdrawn
  simp only [due, target, mt (v.accepts_iff q).mp refuses, if_true, (v.divert_only q).call k]
  rfl

theorem State.settleWithdrawn_returns (moves : ∀ q, ¬ v.OverflowMoves k q) (spends : ∀ q, ¬ v.OverflowSpends k q) :
    v.settleWithdrawn k = v.returnCall k := by
  unfold State.settleWithdrawn
  dsimp only
  split
  case isTrue due =>
    split
    case h_1 q target =>
      by_cases admits : v.Admits q
      · exact absurd ⟨due, target, admits⟩ (moves q)
      · exact absurd ⟨due, target, admits⟩ (spends q)
    case h_2 => rfl
  case isFalse => rfl

end

/-- The offer of call `k` to agent `a` has expired between two states: the agent is AWAY, and the call has returned to
its queue or has moved (R83 to R86). -/
structure State.OfferExpired (s u : State) (k : CallId) (a : AgentId) : Prop where
  rest : u = { s with
    queues := u.queues, joinSeq := u.joinSeq, calls := u.calls, readyList := u.readyList, agents := u.agents
    treatment := { s.treatment with pool := u.treatment.pool }
    notices := { s.notices with backlog := u.notices.backlog } }
  agent : u.agent a = { (s.agent a).wentAway s.now with mark := true }
  state : (u.call k).state = .QUEUED ∨ (u.call k).state = .OFFERED
  released : (u.call k).agent ≠ some a
  kept : (u.call k).overflowDue = false ∧ (u.call k).gen = (s.call k).gen ∧
    (u.call k).arrival = (s.call k).arrival ∧ (u.call k).cls = (s.call k).cls
  withdrawn : (u.call k).marks.withdraw = true ∧ (u.call k).withdrawnAgent = some a
  listed : RecordRef.agent a ∈ u.notices.backlog ∧ RecordRef.call k ∈ u.notices.backlog
  reports : s.Reports u 1028

section
variable {s v u : State} {k : CallId} {a : AgentId} {spent : Bool} {queues : QueueId → Queue}
  (h : s.Withdraws v k a { (s.call k).withdrawnFrom a with overflowSpent := spent } queues) (outside : a ∉ s.readyList)
include h outside

/-- The call's agent, once it is settled, is none or one of the ready list. -/
theorem State.Withdraws.released (agent : (u.call k).agent = (v.call k).agent ∨ ∃ b ∈ v.readyList, (u.call k).agent = some b) :
    (u.call k).agent ≠ some a := by
  rcases agent with same | ⟨b, ready, e⟩
  · rw [same, h.call]; exact nofun
  · rw [e]
    exact fun e => outside (h.readyList ▸ Option.some.inj e ▸ ready)

theorem State.Withdraws.returned {q : QueueId} (returns : v.ReturnsCall u k q) : s.OfferExpired u k a where
  rest := by rw [returns.rest, h.rest]
  agent := by rw [returns.unready a (h.readyList ▸ outside), h.agent]
  state := returns.state
  released := h.released outside returns.keeps.agent
  kept := by rw [returns.call, h.call]; exact ⟨rfl, rfl, rfl, rfl⟩
  withdrawn := by
    refine ⟨?_, ?_⟩
    · rw [returns.keeps.withdraw, h.call]; rfl
    · rw [returns.call, h.call]; rfl
  listed := ⟨returns.reports.mem h.listedAgent, returns.reports.mem h.listedCall⟩
  reports := (h.reports.trans returns.reports).mono (by decide)

theorem State.Withdraws.moved {q : QueueId} (overflows : v.Overflows u k q) : s.OfferExpired u k a where
  rest := by rw [overflows.rest, h.rest]
  agent := by rw [overflows.unready a (h.readyList ▸ outside), h.agent]
  state := overflows.state
  released := h.released outside overflows.agent
  kept := by rw [overflows.call, h.call]; exact ⟨rfl, rfl, rfl, rfl⟩
  withdrawn := by
    refine ⟨?_, ?_⟩
    · rw [overflows.withdraw, h.call]; rfl
    · rw [overflows.call, h.call]; rfl
  listed := ⟨overflows.reports.mem h.listedAgent, overflows.reports.mem h.listedCall⟩
  reports := h.reports.trans overflows.reports

end

/-! ### The expiry -/

theorem State.due_iff (s : State) (d : Option Deadline) :
    s.due d = true ↔ ∃ e, d = some e ∧ e.due ≤ s.now ∧ e.held = false := by
  cases d with
  | none => simp [State.due]
  | some e => simp [State.due, Deadline.reached, and_comm]

/-- The offer of a call is posted, and its deadline has come (R78, R83). -/
def State.OfferExpires (s : State) (k : CallId) : Prop :=
  (s.call k).state = .OFFERED ∧ (s.call k).offerPosted = true ∧
    ∃ d, (s.call k).offerDeadline = some d ∧ d.due ≤ s.now ∧ d.held = false

theorem State.offerExpires_iff (s : State) (k : CallId) :
    ((s.call k).state = .OFFERED ∧ (s.call k).offerPosted = true ∧ s.due (s.call k).offerDeadline = true) ↔
      s.OfferExpires k := by
  rw [s.due_iff]
  rfl

section
variable {s : State} {k : CallId}

theorem State.offerExpiry_unagented (none : (s.call k).agent = none) : exec (.offerExpiry k) s = .next s := by
  show execOfferExpiry k s = _
  unfold execOfferExpiry
  simp only [none]

/-- OFFER_EXPIRY by the timer of the offer (R83). -/
theorem State.offerExpiry_eq {a : AgentId} (agent : (s.call k).agent = some a) : exec (.offerExpiry k) s =
    if (s.call k).state = .OFFERED ∧ (s.call k).offerPosted = true ∧ s.due (s.call k).offerDeadline = true then
      .next (s.expireOffer k a)
    else .next s := by
  show execOfferExpiry k s = _
  unfold execOfferExpiry
  simp only [agent]

theorem State.offerExpiry_waits (waits : ¬ s.OfferExpires k) : exec (.offerExpiry k) s = .next s := by
  cases agent : (s.call k).agent with
  | none => exact State.offerExpiry_unagented agent
  | some a =>
    rw [State.offerExpiry_eq agent, if_neg (mt (s.offerExpires_iff k).mp waits)]

theorem State.offerExpiry_expires {a : AgentId} (agent : (s.call k).agent = some a) (expires : s.OfferExpires k) :
    exec (.offerExpiry k) s = .next (((s.releaseAgent a).withdraw k a).settleWithdrawn k).drain := by
  rw [State.offerExpiry_eq agent, if_pos ((s.offerExpires_iff k).mpr expires)]
  rfl

end

/-- An OFFERED call's agent is not in the ready list (R50, R76). -/
theorem State.RecordsAgree.not_ready_of_offered {s : State} (agree : s.RecordsAgree) {k : CallId} {a : AgentId}
    (offered : (s.call k).state = .OFFERED) (agent : (s.call k).agent = some a) : a ∉ s.readyList := by
  obtain ⟨b, state, paired, -⟩ := agree.offered k offered
  cases Option.some.inj (agent.symm.trans paired)
  rw [agree.ready, state]
  decide

/-- Call `k` has returned to its own queue between two states, its overflow spent or not as `spent` says (R84 to R86). -/
def State.OfferReturns (s u : State) (k : CallId) (a : AgentId) : Prop :=
  ∃ v spent queues, s.Withdraws v k a { (s.call k).withdrawnFrom a with overflowSpent := spent } queues ∧
    v.ReturnsCall u k (s.call k).queue ∧
    (∀ x, queues x = { s.queue x with counters := (queues x).counters }) ∧
    (∀ q, s.OverflowSpends k q → spent = true ∧ (queues q).counters = (s.queue q).divertedOnce.counters) ∧
    ((∀ q, ¬ s.OverflowSpends k q) → spent = (s.call k).overflowSpent) ∧
    ∀ x, ¬ s.OverflowSpends k x → (queues x).counters = (s.queue x).counters

theorem Queue.divertedOnce_eq (r : Queue) : r.divertedOnce = { r with counters := r.divertedOnce.counters } := by
  unfold Queue.divertedOnce
  split <;> rfl

/-- A withdrawn call stands in no list, and returns to that of its own queue (R24, R84). -/
theorem State.Withdraws.returnCall {s v : State} {k : CallId} {a : AgentId} {c : Call} {queues : QueueId → Queue}
    (h : s.Withdraws v k a c queues) (agree : s.RecordsAgree) (offered : (s.call k).state = .OFFERED)
    (own : c.queue = (s.call k).queue) (lists : ∀ x, (queues x).waiting = (s.queue x).waiting) :
    v.ReturnsCall (v.returnCall k) k (s.call k).queue := by
  have there : (v.queue (s.call k).queue).waiting = (s.queue (s.call k).queue).waiting := by rw [h.queue, lists]
  exact State.returnCall_returns (by rw [h.call, own]) (h.readyList ▸ agree.readyNodup) (there ▸ agree.listNodup _)
    (there ▸ agree.unlisted (by rw [offered]; decide) _)

/-- What an expired offer leaves before its notices are drained (R83 to R86). -/
theorem State.offerExpiry_cases {s : State} {k : CallId} {a : AgentId} (agree : s.RecordsAgree)
    (agent : (s.call k).agent = some a) (expires : s.OfferExpires k) :
    ∃ u, exec (.offerExpiry k) s = .next u.drain ∧ s.OfferExpired u k a ∧
      ((∀ q, ¬ s.OverflowMoves k q) → s.OfferReturns u k a) ∧
      ∀ q, s.OverflowMoves k q → ∃ v, s.Withdraws v k a ((s.call k).withdrawnFrom a) s.queue ∧ v.Overflows u k q := by
  have unlisted : ∀ q, k ∉ (s.queue q).waiting := agree.unlisted (by rw [expires.1]; decide)
  have outside := agree.not_ready_of_offered expires.1 agent
  have h := s.withdraw_withdraws k a
  rw [State.offerExpiry_expires agent expires]
  generalize (s.releaseAgent a).withdraw k a = v at h
  have admits : ∀ q, v.Admits q ↔ s.Admits q := h.admits rfl rfl fun _ => rfl
  have moves : ∀ q, v.OverflowMoves k q ↔ s.OverflowMoves k q := fun q => by
    rw [State.OverflowMoves, State.OverflowMoves, admits, h.call, h.queue]; rfl
  have spends : ∀ q, v.OverflowSpends k q ↔ s.OverflowSpends k q := fun q => by
    rw [State.OverflowSpends, State.OverflowSpends, admits, h.call, h.queue]; rfl
  by_cases moving : ∃ q, s.OverflowMoves k q
  · obtain ⟨q, moving⟩ := moving
    have overflows := State.overflowMove_overflows (s := v) (k := k) (q := q) (h.readyList ▸ agree.readyNodup)
      (h.queue q ▸ agree.listNodup q) (h.queue q ▸ unlisted q)
    rw [State.settleWithdrawn_moves ((moves q).mpr moving)]
    refine ⟨_, rfl, h.moved outside overflows, fun none => absurd moving (none q), fun q' moving' => ?_⟩
    cases Option.some.inj (moving.2.1.symm.trans moving'.2.1)
    exact ⟨v, h, overflows⟩
  · have still : ∀ q, ¬ s.OverflowMoves k q := fun q h => moving ⟨q, h⟩
    by_cases spending : ∃ q, s.OverflowSpends k q
    · obtain ⟨q, spending⟩ := spending
      have only : ∀ x, s.OverflowSpends k x → x = q := fun x h => Option.some.inj (h.2.1.symm.trans spending.2.1)
      have spent := h.spends q
      have counters : ∀ x, (if q = x then (s.queue q).divertedOnce else s.queue x) =
          { s.queue x with counters := (if q = x then (s.queue q).divertedOnce else s.queue x).counters } := fun x => by
        split
        case isTrue e => subst e; exact Queue.divertedOnce_eq _
        case isFalse => rfl
      have returns := spent.returnCall agree expires.1 rfl fun x => (congrArg Queue.waiting (counters x) :)
      rw [State.settleWithdrawn_spends ((spends q).mpr spending), h.call]
      refine ⟨_, rfl, spent.returned outside returns, fun _ => ⟨_, _, _, spent, returns, counters, fun x hx => ?_,
        fun none => absurd spending (none q), fun x hx => ?_⟩, fun x hx => absurd hx (still x)⟩
      · cases only x hx
        exact ⟨rfl, by rw [if_pos rfl]⟩
      · rw [if_neg fun e : q = x => hx (e ▸ spending)]
    · have kept : ∀ q, ¬ s.OverflowSpends k q := fun q h => spending ⟨q, h⟩
      have returns := h.returnCall agree expires.1 rfl fun _ => rfl
      rw [State.settleWithdrawn_returns (fun q => mt (moves q).mp (still q)) fun q => mt (spends q).mp (kept q)]
      exact ⟨_, rfl, h.returned outside returns, fun _ => ⟨v, _, _, h, returns, fun _ => rfl,
        fun q hq => absurd hq (kept q), fun _ => rfl, fun _ _ => rfl⟩, fun q hq => absurd hq (still q)⟩

end Sys2Proof.Machine
end

section
/-! PROOFS. O44, assembled: the return and the overflow of a withdrawn call as its expiry leaves them (R39, R83 to R86). -/

namespace Sys2Proof.Machine

/-- A player taken in a state that differs from `s` in none of them (R149). -/
theorem State.PoolTaken.of_samePlayers {s v t : State} {q : QueueId} {k : CallId} {freed : Option PoolId}
    (h : v.PoolTaken t q k freed) (params : (v.queue q).params = (s.queue q).params) (store : v.store = s.store)
    (handle : v.handle k = s.handle k) (pool : ∀ p, v.pool p = s.pool p) : s.PoolTaken t q k freed where
  taken p hp := by
    obtain ⟨g, e, hg, he, ht⟩ := h.taken p hp
    exact ⟨g, e, params ▸ hg, store ▸ he, by rw [ht, handle, store]⟩
  others p hp := by rw [h.others p hp, pool]

/-- The treatment of a call that returns looks at nothing the withdrawal has changed (R83, R86). -/
theorem State.Withdraws.treats {s v u : State} {k : CallId} {a : AgentId} {spent : Bool} {queues : QueueId → Queue}
    {q : QueueId} (h : s.Withdraws v k a { (s.call k).withdrawnFrom a with overflowSpent := spent } queues)
    (params : (queues q).params = (s.queue q).params) (begins : v.BeginsTreatment u q k) :
    ∃ d : Call, s.Treated q (fun p => (s.pool p).state = .IDLE) d ∧ (u.call k).audio = d.audio ∧
      (u.call k).channel = d.channel ∧ (u.call k).nextAnnouncement = d.nextAnnouncement ∧
      ((s.call k).poolPlayer = none → (u.call k).poolPlayer = d.poolPlayer ∧ s.PoolTaken u q k none) := by
  obtain ⟨⟨d, treated, audio, channel, next, player⟩, players, -, -, -⟩ := begins
  have held : (v.call k).poolPlayer = (s.call k).poolPlayer := by rw [h.call]; rfl
  have there : (v.queue q).params = (s.queue q).params := by rw [h.queue, params]
  rw [held] at player players
  refine ⟨d, treated.congr there h.store h.now fun p => by rw [h.pool], audio, channel, next, fun free =>
    ⟨player free, (players free).of_samePlayers there h.store ?_ h.pool⟩⟩
  rw [State.handle, h.call]
  rfl

/-- Settles O44: the agent of an expired offer goes AWAY outside the ready list, so nothing is offered to it; its call
returns to its queue, or leaves it by an overflow that is due. -/
theorem offerExpiriesWithdrawTheCall : Obligations.OfferExpiriesWithdrawTheCall := by
  intro k s agree c r expires
  refine ⟨State.offerExpiry_waits, fun a due agent => ?_⟩
  have outside : a ∉ s.readyList := agree.not_ready_of_offered due.1 agent
  obtain ⟨u, run, expired, returned, moved⟩ := State.offerExpiry_cases agree agent due
  have closes := u.drain_closes
  have port := u.drain_port
  have drained : s.ringRoom = 0 → u.drain = u := fun full => u.drain_full (by rw [expired.rest]; exact full)
  have same := closes.call_same k
  obtain ⟨dueKept, gen, arrival, cls⟩ := expired.kept
  have reported : (u.call k).marks.audio = true → RecordRef.call k ∈ u.notices.backlog → s.AudioReported u.drain k :=
    fun marks listed => expired.reports.audioReported (by decide) closes (by rw [expired.rest]; rfl)
      (by rw [expired.rest]) listed marks
  refine ⟨u.drain, run, ?_, fun full => ?_, ?_, ?_, ?_, ?_, ?_, ?_, ?_, ?_, ?_, fun still => ?_, fun q moves apart => ?_⟩
  · exact (closes.agent_of expired.agent :)
  · rw [drained full, expired.agent]
    exact ⟨rfl, expired.listed.1, expired.withdrawn.1, expired.withdrawn.2, expired.listed.2⟩
  · rw [same.state]; exact expired.state
  · rw [same.agent]; exact expired.released
  · rw [same.overflowDue, dueKept]
  · rw [same.gen, gen]
  · rw [same.arrival, arrival]
  · rw [same.cls, cls]
  · rw [port.1, expired.rest]
  · rw [port.2, expired.rest]
  · exact (State.sameLibrary_of_rest expired.rest).trans closes.library
  · obtain ⟨v, spent, queues, h, returns, lists, spends, kept, others⟩ := returned still
    have call := returns.call
    have queue : ∀ x, u.queue x = { queues x with waiting := (u.queue x).waiting } := fun x => by
      rw [returns.queue, h.queue]
    rw [h.call] at call
    refine ⟨?_, ?_, ?_, ?_, ?_, fun q hq => ⟨?_, ?_⟩, fun none => ?_, fun x hx => ?_, fun none => ?_⟩
    · rw [same.queue, call]; rfl
    · rw [same.entry, call]; rfl
    · rw [same.joinSeq, call]; rfl
    · rw [same.moveCount, call]; rfl
    · rw [closes.joinSeq, returns.rest, h.rest]
    · rw [same.overflowSpent, call]; exact (spends q hq).1
    · rw [closes.queue, queue]; exact (spends q hq).2
    · rw [same.overflowSpent, call]; exact kept none
    · rw [closes.queue, queue]; exact others x hx
    · have params : (queues c.queue).params = r.params := by rw [lists]
      have waits := returns.waits (h.noOffer outside params (by rw [lists]) none)
      have untended : (v.call k).Untended ↔ c.Untended := by rw [h.call]; rfl
      refine ⟨same.state.trans waits.state, ?_, fun silent => ?_, fun tended => ?_, fun j hj => ?_, ?_, fun b hb => ?_⟩
      · rw [closes.queue]
        refine waits.waiting.trans ?_
        rw [h.queue, lists]
      · have begins := waits.begins (untended.mpr silent)
        obtain ⟨d, treated, audio, channel, next, player⟩ := h.treats params begins
        refine ⟨d, treated, same.audio.trans audio, same.channel.trans channel,
          fun free => same.poolPlayer.trans (player free).1, same.nextAnnouncement.trans next,
          fun free => (player free).2.closed closes, fun heard => ?_⟩
        refine reported ?_ expired.listed.2
        rw [(begins.marked (same.channel ▸ heard)).1]
      · have stands := waits.stands (mt untended.mp tended)
        rw [h.call] at stands
        obtain ⟨audio, channel, player, next, treatment⟩ := stands
        refine ⟨same.audio.trans audio, same.channel.trans channel, same.poolPlayer.trans player,
          same.nextAnnouncement.trans next, ?_⟩
        rw [closes.treatment, treatment, h.rest]
      · exact closes.call_of ((waits.others j hj).trans (h.others j hj))
      · rw [closes.readyList, waits.readyList, h.readyList]
      · exact closes.agent_of ((waits.agents b).trans (h.otherAgents b hb))
  · obtain ⟨v, h, overflows⟩ := moved q moves
    have rejoins := overflows.rejoins (by rw [h.call]; exact apart)
    have call := rejoins.call
    have untreated := rejoins.untreated
    rw [h.call] at call untreated
    rw [h.queue, h.now, h.joinSeq] at call
    refine ⟨?_, ?_, ?_, ?_, ?_, ?_, ?_, ?_, fun x hx hx' => ?_, fun full => ?_, fun p held other => ?_, fun offered => ?_,
      fun none => ?_⟩
    · rw [same.queue, call]
    · rw [same.joinSeq, call]
    · rw [same.entry, call]; rfl
    · rw [same.moveCount, call]; rfl
    · rw [same.overflowSpent, call]; rfl
    · rw [closes.joinSeq, rejoins.rest, h.joinSeq]
    · have unlisted : k ∉ r.waiting := agree.unlisted (by rw [due.1]; decide) c.queue
      rw [closes.queue, rejoins.otherQueues _ apart.symm, State.overflowedOutOf, h.call, if_pos (by rfl), h.queue,
        List.erase_of_not_mem unlisted]
    · rw [closes.queue, rejoins.queue, h.queue]; rfl
    · rw [closes.queue, rejoins.otherQueues x hx, State.overflowedOutOf, h.call, if_neg (by exact hx'), h.queue]
    · rw [drained full]
      refine ⟨overflows.moved, ?_, fun heard => rejoins.audio (Call.overflowing_heard (by rw [h.call]; exact heard))⟩
      rw [call]
      rfl
    · rw [closes.pool]
      exact overflows.released p (by rw [h.call]; exact held) (same.poolPlayer ▸ other)
    · rw [same.state] at offered
      rw [same.audio, same.channel, same.poolPlayer, same.nextAnnouncement]
      exact untreated offered
    · have awaits := rejoins.waits (h.noOffer outside rfl rfl none)
      obtain ⟨d, treated, audio, channel, next, player⟩ := awaits.treated
      have freed : (v.call k).poolPlayer = c.poolPlayer := by rw [h.call]; rfl
      rw [freed] at treated
      refine ⟨same.state.trans awaits.state, ?_, ⟨d, ?_, same.audio.trans audio, same.channel.trans channel,
        same.poolPlayer.trans (player rfl), same.nextAnnouncement.trans next⟩, ?_, fun heard => ?_, fun j hj => ?_, ?_,
        fun b hb => ?_⟩
      · rw [closes.queue]
        refine awaits.waiting.trans ?_
        rw [h.queue]
      · exact treated.congr (by rw [h.queue]) h.store h.now fun p => by rw [h.pool]
      · exact ((freed ▸ awaits.players rfl).of_samePlayers (by rw [h.queue]) h.store (by rw [State.handle, h.call]; rfl)
          h.pool).closed closes
      · obtain ⟨marks, listed⟩ := awaits.heard (same.channel ▸ heard)
        exact reported marks listed
      · exact closes.call_of ((awaits.others j hj).trans (h.others j hj))
      · rw [closes.readyList, awaits.readyList, h.readyList]
      · exact closes.agent_of ((awaits.agents b).trans (h.otherAgents b hb))

end Sys2Proof.Machine
end

section
/-! PROOFS. An agent that enters READY: its place in the ready list, the selection it runs, and what stands through it
(R50, R51, R71). -/

namespace Sys2Proof.Machine

/-! ### The record of one agent written -/

/-- The state with the record of one agent and the ready list written, and nothing else changed. -/
def State.agentWritten (s : State) (a : AgentId) (g : Agent) (ready : List AgentId) : State :=
  { s with agents := s.agents.set a.val g, readyList := ready }

@[simp] theorem State.agentWritten_agent (s : State) (a : AgentId) (g : Agent) (ready : List AgentId) :
    (s.agentWritten a g ready).agent a = g := (s.agent_setAgent a a g).trans (if_pos rfl)

theorem State.agentWritten_setAgent (s : State) (a : AgentId) (g h : Agent) (ready : List AgentId) :
    (s.agentWritten a g ready).setAgent a h = s.agentWritten a h ready := by
  simp [State.agentWritten, State.setAgent]

/-- Nothing is marked, so there is nothing to drain (R190). -/
theorem State.NoticeLaw.agentWritten_drain {s : State} (law : s.NoticeLaw) (a : AgentId) (g : Agent)
    (ready : List AgentId) : (s.agentWritten a g ready).drain = s.agentWritten a g ready := law.drain_eq rfl rfl

theorem State.Taking.agentWritten_replies {s : State} (hs : s.Taking) (a : AgentId) (g : Agent) (ready : List AgentId)
    (payload : List Word) (code : BitVec 8) (tag : Tag) :
    (s.agentWritten a g ready).toReply ((Answer.done payload).reply code tag) =
      { s.replying .DONE .NONE code tag payload with agents := s.agents.set a.val g, readyList := ready } :=
  State.toReply_present _ _ hs.2

/-! ### What the selection looks at -/

theorem insertWhere_erase {α : Type} [DecidableEq α] (stop : α → Bool) {x : α} {l : List α} (h : x ∉ l) :
    (insertWhere stop x l).erase x = l := by
  induction l with
  | nil => exact List.erase_cons_head ..
  | cons y ys ih =>
    obtain ⟨apart, out⟩ := not_or.mp (List.mem_cons.not.mp h)
    unfold insertWhere
    split
    · exact List.erase_cons_head ..
    · rw [List.erase_cons_tail (by simpa using Ne.symm apart), ih out]

/-- A selection looks at the queues, the calls, T and the agent's skills (R71 to R73). -/
theorem State.selectQueue_congr {s t : State} {a : AgentId} (queues : t.queues = s.queues) (calls : t.calls = s.calls)
    (time : t.timeBase = s.timeBase) (skills : (t.agent a).skills = (s.agent a).skills) :
    t.selectQueue a = s.selectQueue a := by
  have queue : t.queue = s.queue := funext fun q => by rw [State.queue, queues]; rfl
  have wait : t.rawWait = s.rawWait := funext fun k => by unfold State.rawWait State.now State.call; rw [time, calls]
  have call : t.call = s.call := funext fun k => by unfold State.call; rw [calls]
  have level : ∀ r, (t.agent a).levelFor r = (s.agent a).levelFor r := fun r => by
    unfold Agent.levelFor Agent.level; rw [skills]
  have headWait : t.headWait = s.headWait := funext fun q => by unfold State.headWait; rw [queue, wait]
  have starving : t.starving = s.starving := funext fun q => by unfold State.starving; rw [queue, headWait]
  have score : t.score a = s.score a := funext fun q => by
    unfold State.score State.effectiveWait; rw [queue, wait, call, level]
  have candidates : t.candidates a = s.candidates a := State.candidates_congr (fun q => by rw [queue])
    (fun q => by rw [queue]) fun q => by unfold Agent.qualifies Agent.level; rw [queue, skills]
  unfold State.selectQueue
  rw [candidates, starving, headWait, score]

/-- The head call of the queue chosen is offered (R71). -/
theorem State.select_offers {s : State} {a : AgentId} {q : QueueId} {k : CallId} {rest : List CallId}
    (chosen : s.selectQueue a = some q) (head : (s.queue q).waiting = k :: rest) : s.select a = s.offer q k a := by
  simp only [State.select, chosen, head]

/-! ### A selection that has closed -/

/-- Between state `r` and state `t` call `k`, the head of queue `q`, has been offered to agent `a` (R75, R76). -/
structure State.HeadOffered (r t : State) (q : QueueId) (k : CallId) (rest : List CallId) (a : AgentId) : Prop where
  agent : (t.agent a).state = .OFFERED ∧ (t.agent a).call = some (r.handle k)
  readyList : t.readyList = r.readyList.erase a
  waiting : (t.queue q).waiting = rest
  call : (t.call k).state = .OFFERED ∧ (t.call k).agent = some a
  since : (t.call k).savedReadySince = some (r.agent a).readySince

theorem State.Closes.headOffered {r t : State} {q : QueueId} {k : CallId} {rest : List CallId} {a : AgentId}
    (closes : (r.offer q k a).Closes t) (head : (r.queue q).waiting = k :: rest) : r.HeadOffered t q k rest a := by
  have agent := closes.agent_of ((r.offer_agent q k a a).trans (if_pos rfl))
  have call := closes.call_of ((r.offer_call q k a k).trans (if_pos rfl))
  refine ⟨?_, closes.readyList.trans (r.offer_readyList q k a), ?_, ⟨call.state, call.agent⟩, call.savedReadySince⟩
  · rw [agent]; exact ⟨rfl, rfl⟩
  · rw [closes.queue, State.offer_queue, if_pos rfl, head]
    exact List.erase_cons_head ..

/-! ### An agent that enters READY -/

/-- The agent in READY and in the ready list at part time T, before queue selection runs (R51). -/
def State.inReady (s : State) (a : AgentId) : State :=
  (s.setAgent a ((s.agent a).readied s.now)).joinReady a

theorem State.enterReady_eq (s : State) (a : AgentId) : s.enterReady a s.now = (s.inReady a).select a := rfl

theorem State.inReady_agent (s : State) (a : AgentId) : (s.inReady a).agent a = (s.agent a).readied s.now :=
  (s.agent_setAgent a a _).trans (if_pos rfl)

theorem State.inReady_readyList (s : State) (a : AgentId) : (s.inReady a).readyList.Perm (a :: s.readyList) :=
  insertWhere_perm _ _ _

theorem State.inReady_candidates (s : State) (a : AgentId) : (s.inReady a).candidates a = s.candidates a :=
  State.candidates_congr (fun _ => rfl) (fun _ => rfl) fun q => by rw [State.inReady_agent]; rfl

theorem State.enterReady_still {s : State} {a : AgentId} (none : s.candidates a = []) :
    s.enterReady a s.now = s.inReady a :=
  (s.inReady a).select_none a ((s.inReady_candidates a).trans none)

/-- Agent `a` has entered READY between two states, and at most one waiting call has been offered to it (R51, R71). -/
structure State.EntersReady (s u : State) (a : AgentId) : Prop where
  rest : u = { s with
    queues := u.queues, calls := u.calls, readyList := u.readyList, agents := u.agents
    notices := { s.notices with backlog := u.notices.backlog } }
  agent : (u.agent a = (s.agent a).readied s.now ∧ a ∈ u.readyList ∧ u.notices = s.notices) ∨
    ∃ h, u.agent a = ((s.agent a).readied s.now).offeredCall h s.now
  queue : ∀ x, u.queue x = { s.queue x with waiting := (u.queue x).waiting }
  unmarked : ∀ b, RecordRef.agent b ∈ u.notices.backlog → RecordRef.agent b ∈ s.notices.backlog

theorem State.enterReady_enters (s : State) (a : AgentId) : s.EntersReady (s.enterReady a s.now) a := by
  have own := s.inReady_agent a
  rw [State.enterReady_eq]
  rcases (s.inReady a).select_cases a with same | ⟨q, k, -, -, -, offer⟩
  · rw [same]
    exact ⟨rfl, .inl ⟨own, (s.inReady_readyList a).mem_iff.mpr List.mem_cons_self, rfl⟩, fun _ => rfl, fun _ => id⟩
  · rw [offer]
    refine ⟨by rw [State.offer_eq]; rfl, .inr ⟨(s.inReady a).handle k, ?_⟩, fun x => ?_, fun b => ?_⟩
    · rw [State.offer_agent, if_pos rfl, own]; rfl
    · rw [State.offer_queue]
      split
      case isTrue e => subst e; rfl
      case isFalse => rfl
    · rw [State.offer_eq]
      dsimp only
      split
      · exact id
      · exact fun m => (List.mem_append.mp m).resolve_right (by simp)

namespace State.EntersReady

variable {s u : State} {a : AgentId} (h : s.EntersReady u a)
include h

theorem fields : u.agent a =
    { (s.agent a).readied s.now with state := (u.agent a).state, call := (u.agent a).call } := by
  rcases h.agent with ⟨e, -⟩ | ⟨_, e⟩
  · rw [e]
  · rw [e]; rfl

theorem entered : (u.agent a).state = .READY ∧ a ∈ u.readyList ∨ (u.agent a).state = .OFFERED := by
  rcases h.agent with ⟨e, ready, -⟩ | ⟨_, e⟩ <;> rw [e]
  · exact .inl ⟨rfl, ready⟩
  · exact .inr rfl

theorem quiet (other : (u.agent a).state ≠ .OFFERED) : u.notices = s.notices := by
  rcases h.agent with ⟨-, -, same⟩ | ⟨_, e⟩
  · exact same
  · exact absurd (by rw [e]; rfl) other

theorem port : u.port = s.port := by rw [h.rest]

theorem treatment : u.treatment = s.treatment := by rw [h.rest]

theorem sameLibrary : s.SameLibrary u := State.sameLibrary_of_rest (by rw [h.rest])

end State.EntersReady

/-- Where no queue is a candidate nothing is posted, and the agent stands in the ready list (R71, R190). -/
theorem State.NoticeLaw.ready_still {s n t : State} {a : AgentId} (law : s.NoticeLaw) (notices : n.notices = s.notices)
    (port : n.port = s.port) (none : n.candidates a = []) (closes : (n.enterReady a n.now).Closes t) :
    (t.agent a).state = .READY ∧ t.readyList.Perm (a :: n.readyList) ∧ t.queues = n.queues ∧ t.calls = n.calls := by
  rw [State.enterReady_still none] at closes
  have quiet : (n.inReady a).drain = n.inReady a := law.drain_eq notices port
  refine ⟨?_, closes.readyList ▸ n.inReady_readyList a, closes.queues, Vector.ext fun i hi => ?_⟩
  · rw [closes.agents, quiet, State.inReady_agent]; rfl
  · exact (closes.calls ⟨i, hi⟩).trans (congrArg (State.call · ⟨i, hi⟩) quiet : _ = (n.inReady a).call ⟨i, hi⟩)

end Sys2Proof.Machine
end

section
/-! PROOFS. O29: A_LOGIN and A_SKILLS store their words and run queue selection (R51, R54, R55, R62, R71). -/

namespace Sys2Proof.Machine

/-! ### Operands -/

theorem idOf_agent (a : AgentId) : idOf 1024 (word a.val) = some a := idOf_word (by decide) a

theorem targetOf_ready (reason : Word) : targetOf 0 reason = some none := rfl

theorem targetOf_away {r : Fin 16} (host : r.val ≤ 14) : targetOf 1 (word r.val) = some (some r) := by
  have reason : (word r.val).toNat = r.val := word_toNat (by omega)
  have below : (word r.val).toNat < 15 := by omega
  exact (dif_pos below).trans (congrArg (some ∘ some) (Fin.ext reason))

/-- A list that reads as skills fits the length field (R46). -/
theorem length_of_skillsOf {ws : List Word} {l : List Skill} (h : skillsOf ws = some l) : ws.length ≤ 58 := by
  by_contra long
  rw [skillsOf_eq_none (.inl (by omega))] at h
  cases h

theorem State.stationHeld_iff (s : State) (station : Nat) :
    s.stationHeld station = true ↔ ∃ b, (s.agent b).state ≠ .LOGGED_OUT ∧ (s.agent b).station = station := by
  simp only [State.stationHeld, List.any_eq_true, Vector.mem_toList_iff, Vector.mem_iff_getElem, Bool.and_eq_true,
    bne_iff_ne, beq_iff_eq]
  constructor
  · rintro ⟨_, ⟨i, hi, rfl⟩, held⟩
    exact ⟨⟨i, hi⟩, held⟩
  · rintro ⟨b, held⟩
    exact ⟨s.agent b, ⟨b.val, b.isLt, rfl⟩, held⟩

/-! ### A_LOGIN -/

/-- The state of an accepted A_LOGIN before its initial state is entered (R55). -/
def State.signedIn (s : State) (a : AgentId) (station : Nat) (skills : List Skill) : State :=
  s.agentWritten a ((s.agent a).signIn station skills s.now) s.readyList

section
variable {s : State} (hs : s.Taking) (tag : Tag) {a : AgentId} {station initial reason : Word} {skills : List Word}
  {l : List Skill} (words : skillsOf skills = some l) (fits : station.toNat ≤ 65535)
include hs words fits

theorem State.Taking.aLogin_accepted {away : Option (Fin 16)} (target : targetOf initial reason = some away)
    (out : (s.agent a).state = .LOGGED_OUT) (free : s.stationHeld station.toNat = false) :
    exec (.aLogin tag (word a.val) station initial reason skills) s =
      .next ((s.login a station.toNat l away).drain.toReply
        ((Answer.done [word ((s.login a station.toNat l away).agent a).state.code]).reply 0x30 tag)) := by
  refine (hs.takes _ (blockTest_aLogin tag _ _ _ _ skills (length_of_skillsOf words))).trans ?_
  simp [State.aLoginBody, idOf_agent a, words, target, Nat.not_lt.mpr fits, out, free]

/-- An A_LOGIN to READY closes with the selection its agent runs (R55, R71). -/
theorem State.Taking.aLogin_enters (out : (s.agent a).state = .LOGGED_OUT)
    (free : s.stationHeld station.toNat = false) :
    let n := s.signedIn a station.toNat l
    ∃ t, exec (.aLogin tag (word a.val) station 0 reason skills) s = .next t ∧ (n.enterReady a n.now).Closes t ∧
      t.Replies .DONE .NONE 0x30 tag [word (t.agent a).state.code] := by
  intro n
  obtain ⟨t, ht, closes, replies⟩ := (n.enterReady a n.now).closes .DONE .NONE
    [word ((n.enterReady a n.now).agent a).state.code] 0x30 tag ((n.enterReady_enters a).port ▸ hs.2)
  have state : (t.agent a).state = ((n.enterReady a n.now).agent a).state := by rw [closes.agent_same a]
  exact ⟨t, (hs.aLogin_accepted tag words fits (targetOf_ready reason) out free).trans (congrArg _ ht), closes,
    state ▸ replies⟩

theorem State.Taking.aLogin_state (signed : (s.agent a).state ≠ .LOGGED_OUT) :
    exec (.aLogin tag (word a.val) station 0 reason skills) s = .next (s.replying .REFUSED .STATE 0x30 tag []) := by
  refine hs.answers (blockTest_aLogin tag _ _ _ _ skills (length_of_skillsOf words)) ?_
  simp only [State.aLoginBody, idOf_agent a, words, targetOf_ready,
    Nat.not_lt.mpr fits, if_false, signed, ne_eq, not_false_eq_true, if_true]
  rfl

theorem State.Taking.aLogin_held (out : (s.agent a).state = .LOGGED_OUT) (held : s.stationHeld station.toNat = true) :
    exec (.aLogin tag (word a.val) station 0 reason skills) s =
      .next (s.replying .REFUSED .STATION_IN_USE 0x30 tag []) := by
  refine hs.answers (blockTest_aLogin tag _ _ _ _ skills (length_of_skillsOf words)) ?_
  simp only [State.aLoginBody, idOf_agent a, words, targetOf_ready,
    Nat.not_lt.mpr fits, if_false, out, ne_eq, not_true_eq_false, held, if_true]
  rfl

end

theorem State.login_away (s : State) (a : AgentId) (station : Nat) (skills : List Skill) (r : Fin 16) :
    s.login a station skills (some r) =
      s.agentWritten a { (s.agent a).signIn station skills s.now with state := .AWAY, awayReason := r }
        s.readyList := by
  show (s.signedIn a station skills).enterAway a r = _
  rw [State.enterAway, State.signedIn, State.agentWritten_setAgent, State.agentWritten_agent]
  rfl

/-! ### A_SKILLS -/

/-- An agent's skill list replaced, before any selection (R62). -/
def State.withSkills (s : State) (a : AgentId) (skills : List Skill) : State :=
  s.agentWritten a { s.agent a with skills := skills } s.readyList

theorem State.withSkills_agent (s : State) (a : AgentId) (skills : List Skill) :
    (s.withSkills a skills).agent a = { s.agent a with skills := skills } := s.agentWritten_agent a _ _

theorem State.reskill_still {s : State} {a : AgentId} {skills : List Skill}
    (still : (s.agent a).state ≠ .READY ∨ (s.withSkills a skills).candidates a = []) :
    s.reskill a skills = s.withSkills a skills := by
  show (if ((s.withSkills a skills).agent a).state = .READY then _ else _) = _
  rw [State.withSkills_agent]
  split
  case isTrue ready => exact State.select_none _ _ (still.resolve_left (absurd ready))
  case isFalse => rfl

theorem State.reskill_ready {s : State} {a : AgentId} (skills : List Skill) (ready : (s.agent a).state = .READY) :
    s.reskill a skills = (s.withSkills a skills).select a := by
  show (if ((s.withSkills a skills).agent a).state = .READY then _ else _) = _
  rw [State.withSkills_agent]
  exact if_pos ready

theorem State.Taking.aSkills_accepted {s : State} (hs : s.Taking) (tag : Tag) {a : AgentId} {skills : List Word}
    {l : List Skill} (words : skillsOf skills = some l) :
    exec (.aSkills tag (word a.val) skills) s =
      .next ((s.reskill a l).drain.toReply
        ((Answer.done [word ((s.reskill a l).agent a).state.code, word l.length]).reply 0x33 tag)) := by
  refine (hs.takes _ (blockTest_aSkills tag _ skills (length_of_skillsOf words))).trans ?_
  simp only [State.aSkillsBody, idOf_agent a, words]

/-- Settles O29: the words are stored, and the agent of an accepted A_LOGIN and a READY agent of an A_SKILLS run one
selection over the queues, the calls and the new skills. -/
theorem loginAndSkillsRunSelection : Obligations.LoginAndSkillsRunSelection := by
  intro tag a station reason skills l s hs law agree words fits g signed held
  have free_of : ¬ held → s.stationHeld station.toNat = false := fun h =>
    Bool.eq_false_iff.mpr fun h' => h ((s.stationHeld_iff _).mp h')
  refine ⟨fun r out free word_r host => ?_, fun out free => ?_, fun out inUse => ?_, fun signed => ?_, fun still => ?_,
    fun q k rest ready chosen head => ?_⟩
  · rw [hs.aLogin_accepted tag words fits (word_r ▸ targetOf_away host) out (free_of free), State.login_away,
      law.agentWritten_drain, State.agentWritten_agent, hs.agentWritten_replies]
    rfl
  · let n := s.signedIn a station.toNat l
    let asked := s.agentWritten a { signed with state := .READY } s.readyList
    have signedIn : n.agent a = signed := s.agentWritten_agent a _ _
    have skilled : (asked.agent a).skills = l := by rw [State.agentWritten_agent]
    have enters := n.enterReady_enters a
    have unlisted : a ∉ s.readyList := fun m => by rw [(agree.ready a).mp m] at out; cases out
    obtain ⟨t, ht, closes, replies⟩ := hs.aLogin_enters tag words fits (reason := reason) out (free_of free)
    have agent : t.agent a = _ := closes.agent_of enters.fields
    rw [signedIn] at agent
    refine ⟨t, ht, replies, by rw [agent]; rfl, by rw [agent]; rfl, by rw [agent]; rfl, by rw [agent]; rfl,
      by rw [agent]; rfl, closes.treatment.trans enters.treatment,
      (State.sameLibrary_of_rest rfl).trans (enters.sameLibrary.trans closes.library), fun none => ?_,
      fun q k rest chosen head => ?_⟩
    · have candidates : n.candidates a = asked.candidates a := State.candidates_congr (fun _ => rfl) (fun _ => rfl)
        fun q => by rw [signedIn, State.agentWritten_agent]; rfl
      exact law.ready_still (n := n) rfl rfl (candidates.trans none) closes
    · have same : (n.inReady a).selectQueue a = asked.selectQueue a := State.selectQueue_congr rfl rfl rfl
        (by rw [State.inReady_agent, signedIn, skilled]; rfl)
      rw [State.enterReady_eq, State.select_offers (same.trans chosen) head] at closes
      obtain ⟨state, list, waiting, call, since⟩ := closes.headOffered head
      refine ⟨state.1, state.2, ?_, waiting, call.1, call.2, ?_⟩
      · rw [list, List.erase_of_not_mem unlisted]
        exact insertWhere_erase _ unlisted
      · rw [since, State.inReady_agent]; rfl
  · exact hs.aLogin_held tag words fits out ((s.stationHeld_iff _).mpr inUse)
  · exact hs.aLogin_state tag words fits signed
  · rw [hs.aSkills_accepted tag words, State.reskill_still still, State.withSkills, law.agentWritten_drain,
      State.agentWritten_agent, hs.agentWritten_replies]
    rfl
  · have offer := State.select_offers (s := s.withSkills a l) chosen head
    rw [hs.aSkills_accepted tag words, State.reskill_ready l ready, offer]
    obtain ⟨t, ht, closes, replies⟩ := ((s.withSkills a l).offer q k a).closes .DONE .NONE
      [word (((s.withSkills a l).offer q k a).agent a).state.code, word l.length] 0x33 tag
      (by rw [State.offer_eq]; exact hs.2)
    rw [State.offer_agent, if_pos rfl] at replies
    obtain ⟨state, list, waiting, call, -⟩ := closes.headOffered head
    refine ⟨t, congrArg _ ht, replies, ?_, state.1, state.2, list, waiting, call.1, call.2, ?_⟩
    · rw [closes.agent_of ((State.offer_agent _ q k a a).trans (if_pos rfl)), State.withSkills_agent]; rfl
    · exact (State.sameLibrary_of_rest (by rw [State.offer_eq]; rfl)).trans closes.library

end Sys2Proof.Machine
end

section
/-! PROOFS. An agent that enters READY without a mark: the drain that follows, and the wrap that ends so (R99 to R102,
R190, R191). -/

namespace Sys2Proof.Machine

/-! ### What a drain takes -/

/-- The head of the backlog taken: no record enters it and no record gains a mark (R190, R191). -/
theorem State.postHead_shrinks (s : State) :
    s.postHead.notices.backlog ⊆ s.notices.backlog ∧ ∀ x, s.postHead.pendingCount x ≤ s.pendingCount x := by
  cases hb : s.notices.backlog with
  | nil => simp [State.postHead, hb]
  | cons r rest =>
    by_cases none : s.pendingCount r = 0
    · rw [State.postHead_skips s r rest hb none]
      exact ⟨List.subset_cons_self r rest, fun x => by cases x <;> exact le_rfl⟩
    · obtain ⟨-, -, -, -, counted, backlog⟩ := s.postHead_posts r rest hb none
      refine ⟨?_, fun x => (Nat.le_add_right _ _).trans (counted x).le⟩
      rw [backlog]
      split
      · exact List.subset_cons_self r rest
      · exact List.Subset.refl _

theorem State.drain_shrinks (s : State) :
    s.drain.notices.backlog ⊆ s.notices.backlog ∧ ∀ x, s.drain.pendingCount x ≤ s.pendingCount x := by
  unfold State.drain
  generalize s.ringRoom + s.notices.backlog.length = n
  induction n generalizing s with
  | zero => exact ⟨List.Subset.refl _, fun _ => le_rfl⟩
  | succ n ih =>
    unfold State.drainBy
    split
    · exact ⟨List.Subset.refl _, fun _ => le_rfl⟩
    · obtain ⟨backlog, marks⟩ := ih s.postHead
      exact ⟨fun _ m => s.postHead_shrinks.1 (backlog m), fun x => (marks x).trans (s.postHead_shrinks.2 x)⟩

theorem State.Closes.mark_of {u t : State} (h : u.Closes t) {a : AgentId} (marked : (t.agent a).mark = true) :
    (u.agent a).mark = true := by
  have less := u.drain_shrinks.2 (.agent a)
  rw [State.pendingCount_agent, State.pendingCount_agent, ← h.agents, marked] at less
  exact Bool.toNat_eq_one.mp (le_antisymm (Bool.toNat_le _) less)

/-- An agent that enters READY is not reported: the only mark its selection sets is that of the call it offers (R75,
R102). -/
theorem State.EntersReady.notReported {s n u t : State} {a : AgentId} (h : n.EntersReady u a) (law : s.NoticeLaw)
    (closes : u.Closes t) (notices : n.notices = s.notices) (port : n.port = s.port) (bus : n.bus = s.bus)
    (mark : (n.agent a).mark = (s.agent a).mark) : s.AgentNotReported t a where
  mark marked := by
    have kept : (u.agent a).mark = (n.agent a).mark := by rw [h.fields]; rfl
    rw [← mark, ← kept]
    exact closes.mark_of marked
  backlog listed := by
    rw [closes.notices] at listed
    exact notices ▸ h.unmarked a (u.drain_shrinks.1 listed)
  quiet other := by
    have same : (t.agent a).state = (u.agent a).state := by rw [closes.agent_same a]
    have silent := (h.quiet (same ▸ other)).trans notices
    have still : u.drain = u := law.drain_eq silent (h.port.trans port)
    rw [closes.notices, closes.bus, still, silent, h.rest]
    exact ⟨rfl, bus⟩

/-! ### The wrap that ends without a mark -/

/-- A wrap with no pending that ends before its deadline is the hand-over and the entry into READY (R101, R102). -/
theorem State.endWrap_ready {n : State} {a : AgentId} (none : (n.agent a).pending = .NONE) :
    n.endWrap a false = (n.handedOver a).enterReady a n.now := by
  obtain ⟨t, handed, ends⟩ := n.endWrap_cases a false
  rw [ends, none, handed]
  rfl

theorem State.handedOver_agent (n : State) (a : AgentId) : (n.handedOver a).agent a = (n.agent a).wrapped n.now :=
  (State.agent_setAgent _ a a _).trans (if_pos rfl)

theorem State.handedOver_now (n : State) (a : AgentId) : (n.handedOver a).now = n.now := by
  rw [State.handedOver_rest]; rfl

theorem State.EntersReady.wrapEnds {n u : State} {a : AgentId} (h : (n.handedOver a).EntersReady u a) :
    n.WrapEnds u a (n.agent a).wrapQueue (n.agent a).wrapTalk (n.now - (n.agent a).wrapStart) .NONE := by
  have fields := h.fields
  rw [State.handedOver_agent, State.handedOver_now] at fields
  have queue := h.queue
  simp only [State.handedOver_queue] at queue
  have own := queue (n.agent a).wrapQueue
  rw [if_pos rfl] at own
  refine ⟨by rw [fields]; rfl, by rw [own]; rfl, ?_, by rw [own]; exact ⟨rfl, rfl⟩, fun r hr => ?_,
    by rw [fields]; exact ⟨rfl, rfl, rfl, rfl, rfl, rfl⟩, by rw [fields]; exact ⟨rfl, rfl⟩, by rw [fields]; rfl,
    fun _ => ⟨by rw [fields]; rfl, h.entered⟩, nofun, nofun⟩
  · rw [own, max_comm]
    exact Int.toNat_eq_max _
  · rw [queue r, if_neg (Ne.symm hr)]
    exact ⟨rfl, rfl⟩

end Sys2Proof.Machine
end

section
/-! PROOFS. O30: A_LOGOUT and A_SET by the agent's present state (R56 to R60, R102, Tables 3-5 and 3-6). -/

namespace Sys2Proof.Machine

/-! ### The records the tables write -/

/-- An agent that has left AWAY at part time `now`, its away seconds counted (R53). -/
def Agent.awayCounted (g : Agent) (now : Nat) : Agent :=
  { g with counters := { g.counters with awaySeconds := satAdd g.counters.awaySeconds (now - g.stateEntry) } }

/-- An agent logged out at part time `now` (R60). -/
def Agent.loggedOut (g : Agent) (now : Nat) : Agent :=
  { g with state := .LOGGED_OUT, awayReason := 0, stateEntry := now }

/-- An agent sent AWAY by the host at part time `now` (R57). -/
def Agent.sentAway (g : Agent) (r : Fin 16) (now : Nat) : Agent :=
  { g with state := .AWAY, awayReason := r, stateEntry := now }

/-- An agent with its pending written (R61). -/
def Agent.withPending (g : Agent) (p : PendingChange) : Agent := { g with pending := p }

/-- An agent with its away reason written (R57). -/
def Agent.withReason (g : Agent) (r : Fin 16) : Agent := { g with awayReason := r }

/-! ### The rows of the tables -/

section
variable {s : State} {a : AgentId}

theorem State.countAway_eq :
    s.countAway a = s.agentWritten a ((s.agent a).awayCounted s.now) s.readyList := rfl

theorem State.logout_away (away : (s.agent a).state = .AWAY) : s.logout a =
    some (s.agentWritten a (((s.agent a).awayCounted s.now).loggedOut s.now) s.readyList) := by
  have left : ((s.countAway a).enterLoggedOut a) =
      s.agentWritten a (((s.agent a).awayCounted s.now).loggedOut s.now) s.readyList := by
    rw [State.countAway_eq, State.enterLoggedOut, State.agentWritten_setAgent, State.agentWritten_agent]
    rfl
  simp only [State.logout, away, left]

theorem State.logout_ready (ready : (s.agent a).state = .READY) : s.logout a =
    some (s.agentWritten a ((s.agent a).loggedOut s.now) (s.readyList.erase a)) := by
  simp only [State.logout, ready]; rfl

theorem State.logout_serving (serving : (s.agent a).state = .TALKING ∨ (s.agent a).state = .WRAP) : s.logout a =
    some (s.agentWritten a ((s.agent a).withPending .LOGOUT) s.readyList) := by
  rcases serving with talking | wrap
  · simp only [State.logout, talking]; rfl
  · simp only [State.logout, wrap]; rfl

theorem State.logout_refused (out : (s.agent a).state = .LOGGED_OUT ∨ (s.agent a).state = .OFFERED) :
    s.logout a = none := by
  rcases out with out | offered
  · simp only [State.logout, out]
  · simp only [State.logout, offered]

theorem State.setAway_away (r : Fin 16) (away : (s.agent a).state = .AWAY) : s.setAway a r =
    some (s.agentWritten a ((s.agent a).withReason r) s.readyList) := by
  simp only [State.setAway, away]
  rw [← away]
  rfl

theorem State.setAway_ready (r : Fin 16) (ready : (s.agent a).state = .READY) : s.setAway a r =
    some (s.agentWritten a ((s.agent a).sentAway r s.now) (s.readyList.erase a)) := by
  simp only [State.setAway, ready]; rfl

theorem State.setAway_serving (r : Fin 16) (serving : (s.agent a).state = .TALKING ∨ (s.agent a).state = .WRAP)
    (stays : (s.agent a).pending ≠ .LOGOUT) : s.setAway a r =
      some (s.agentWritten a ((s.agent a).withPending (.AWAY r)) s.readyList) := by
  rcases serving with talking | wrap
  · simp only [State.setAway, talking, if_neg stays]; rfl
  · simp only [State.setAway, wrap, if_neg stays]; rfl

theorem State.setAway_leaving (r : Fin 16) (serving : (s.agent a).state = .TALKING ∨ (s.agent a).state = .WRAP)
    (leaves : (s.agent a).pending = .LOGOUT) : s.setAway a r = none := by
  rcases serving with talking | wrap
  · simp only [State.setAway, talking, if_pos leaves]
  · simp only [State.setAway, wrap, if_pos leaves]

theorem State.setAway_refused (r : Fin 16) (out : (s.agent a).state = .LOGGED_OUT ∨ (s.agent a).state = .OFFERED) :
    s.setAway a r = none := by
  rcases out with out | offered
  · simp only [State.setAway, out]
  · simp only [State.setAway, offered]

theorem State.setReady_refused (out : (s.agent a).state = .LOGGED_OUT ∨ (s.agent a).state = .OFFERED) :
    s.setReady a = none := by
  rcases out with out | offered
  · simp only [State.setReady, out]
  · simp only [State.setReady, offered]

theorem State.setReady_ready (ready : (s.agent a).state = .READY) : s.setReady a = some s := by
  simp only [State.setReady, ready]

theorem State.setReady_talking (talking : (s.agent a).state = .TALKING) : s.setReady a =
    some (s.agentWritten a ((s.agent a).withPending .NONE) s.readyList) := by
  simp only [State.setReady, talking]; rfl

theorem State.setReady_away (away : (s.agent a).state = .AWAY) : s.setReady a =
    some ((s.agentWritten a ((s.agent a).awayCounted s.now) s.readyList).enterReady a s.now) := by
  simp only [State.setReady, away]; rfl

theorem State.setReady_wrap (wrap : (s.agent a).state = .WRAP) : s.setReady a =
    some ((s.agentWritten a ((s.agent a).withPending .NONE) s.readyList).endWrap a false) := by
  simp only [State.setReady, wrap]; rfl

end

/-- A drain changes nothing the items of a reply are taken from. -/
theorem State.Closes.changeItems_agent {u t : State} (closes : u.Closes t) {a : AgentId} (g : Agent) :
    changeItems g (u.agent a) = changeItems g (t.agent a) := by rw [closes.agent_same a]; rfl

/-! ### A_LOGOUT -/

section
variable {s : State} (hs : s.Taking) (tag : Tag) {a : AgentId}
include hs

theorem State.Taking.aLogout_done {g : Agent} {ready : List AgentId}
    (row : s.logout a = some (s.agentWritten a g ready)) : exec (.aLogout tag (word a.val)) s =
      .next { s.replying .DONE .NONE 0x31 tag (changeItems (s.agent a) g) with
        agents := s.agents.set a.val g, readyList := ready } := by
  refine (hs.takes _ rfl).trans (congrArg _ ?_)
  simp only [State.aLogoutBody, idOf_agent a, row, State.agentWritten_agent]
  exact hs.agentWritten_replies a g ready _ _ _

theorem State.Taking.aLogout_refused (row : s.logout a = none) : exec (.aLogout tag (word a.val)) s =
    .next (s.replying .REFUSED .STATE 0x31 tag (changeItems (s.agent a) (s.agent a))) := by
  refine hs.answers rfl ?_
  simp only [State.aLogoutBody, idOf_agent a, row]
  rfl

end

/-! ### A_SET -/

/-- An empty expected set expects every state (R56). -/
theorem expects_iff (expected : Word) (st : AgentState) : (expectsNone expected || expects expected st) = true ↔
    expected.extractLsb' 0 6 = 0 ∨ expected.getLsbD st.code = true := by
  rw [Bool.or_eq_true, expectsNone, beq_iff_eq, expects]

section
variable {s : State} (hs : s.Taking) (tag : Tag) {a : AgentId} {target reason expected : Word}
include hs

theorem State.Taking.aSet_mismatch {away : Option (Fin 16)} (read : targetOf target reason = some away)
    (other : ¬ (expected.extractLsb' 0 6 = 0 ∨ expected.getLsbD (s.agent a).state.code = true)) :
    exec (.aSet tag (word a.val) target reason expected) s =
      .next (s.replying .REFUSED .MISMATCH 0x32 tag [word (s.agent a).state.code, (s.agent a).pending.word]) := by
  refine hs.answers rfl ?_
  rw [← expects_iff, Bool.not_eq_true] at other
  simp only [State.aSetBody, idOf_agent a, read, other, Bool.not_false, if_true]
  rfl

variable (met : expected.extractLsb' 0 6 = 0 ∨ expected.getLsbD (s.agent a).state.code = true)
include met

theorem State.Taking.aSet_away {r : Fin 16} {g : Agent} {ready : List AgentId}
    (read : targetOf target reason = some (some r)) (row : s.setAway a r = some (s.agentWritten a g ready)) :
    exec (.aSet tag (word a.val) target reason expected) s =
      .next { s.replying .DONE .NONE 0x32 tag (changeItems (s.agent a) g) with
        agents := s.agents.set a.val g, readyList := ready } := by
  refine (hs.takes _ rfl).trans (congrArg _ ?_)
  simp only [State.aSetBody, idOf_agent a, read, (expects_iff _ _).mpr met,
    Bool.not_true, Bool.false_eq_true, if_false, row, State.agentWritten_agent]
  exact hs.agentWritten_replies a g ready _ _ _

theorem State.Taking.aSet_away_refused {r : Fin 16} (read : targetOf target reason = some (some r))
    (row : s.setAway a r = none) : exec (.aSet tag (word a.val) target reason expected) s =
      .next (s.replying .REFUSED .STATE 0x32 tag (changeItems (s.agent a) (s.agent a))) := by
  refine hs.answers rfl ?_
  simp only [State.aSetBody, idOf_agent a, read, (expects_iff _ _).mpr met,
    Bool.not_true, Bool.false_eq_true, if_false, row]
  rfl

theorem State.Taking.aSet_ready {u : State} (row : s.setReady a = some u) :
    exec (.aSet tag (word a.val) 0 reason expected) s =
      .next (u.drain.toReply ((Answer.done (changeItems (s.agent a) (u.agent a))).reply 0x32 tag)) := by
  refine (hs.takes _ rfl).trans (congrArg _ ?_)
  simp only [State.aSetBody, idOf_agent a, targetOf_ready, (expects_iff _ _).mpr met,
    Bool.not_true, Bool.false_eq_true, if_false, row]

/-- An A_SET READY that makes its agent READY closes with the selection the agent runs (R57, R71). -/
theorem State.Taking.aSet_enters {n : State} (row : s.setReady a = some (n.enterReady a n.now))
    (port : n.port = s.port) :
    ∃ t, exec (.aSet tag (word a.val) 0 reason expected) s = .next t ∧ (n.enterReady a n.now).Closes t ∧
      t.Replies .DONE .NONE 0x32 tag (changeItems (s.agent a) (t.agent a)) := by
  obtain ⟨t, ht, closes, replies⟩ := (n.enterReady a n.now).closes .DONE .NONE
    (changeItems (s.agent a) ((n.enterReady a n.now).agent a)) 0x32 tag
    (by rw [(n.enterReady_enters a).port, port]; exact hs.2)
  exact ⟨t, (hs.aSet_ready tag met row).trans (congrArg _ ht), closes, closes.changeItems_agent (s.agent a) ▸ replies⟩

theorem State.Taking.aSet_ready_refused (row : s.setReady a = none) :
    exec (.aSet tag (word a.val) 0 reason expected) s =
      .next (s.replying .REFUSED .STATE 0x32 tag (changeItems (s.agent a) (s.agent a))) := by
  refine hs.answers rfl ?_
  simp only [State.aSetBody, idOf_agent a, targetOf_ready, (expects_iff _ _).mpr met,
    Bool.not_true, Bool.false_eq_true, if_false, row]
  rfl

end

/-- Settles O30: each clause is the row of R60 or of Tables 3-5 and 3-6 for the agent's present state; the two that make
an agent READY run one selection, without a mark. -/
theorem logoutAndSetFollowTheirTables : Obligations.LogoutAndSetFollowTheirTables := by
  intro tag a r reason expected s hs law word_r host g awaySeconds items becomes logout toAway toReady expects
  have read : targetOf 1 reason = some (some r) := word_r ▸ targetOf_away host
  have items_eq : changeItems g = items := funext fun h => by
    cases e : h.pending <;> simp only [changeItems, items, e, PendingChange.word]
  clear_value items
  subst items_eq
  refine ⟨fun out => hs.aLogout_refused tag (State.logout_refused out),
    fun away => hs.aLogout_done tag (State.logout_away away),
    fun ready => hs.aLogout_done tag (State.logout_ready ready),
    fun serving => hs.aLogout_done tag (State.logout_serving serving),
    fun other => ⟨hs.aSet_mismatch tag read other, hs.aSet_mismatch tag (targetOf_ready reason) other⟩,
    fun met out => ⟨hs.aSet_away_refused tag met read (State.setAway_refused r out),
      hs.aSet_ready_refused tag met (State.setReady_refused out)⟩,
    fun met away => hs.aSet_away tag met read (State.setAway_away r away),
    fun met ready => ⟨hs.aSet_away tag met read (State.setAway_ready r ready), ?_⟩,
    fun met serving => ⟨fun leaves => hs.aSet_away_refused tag met read (State.setAway_leaving r serving leaves),
      fun stays => hs.aSet_away tag met read (State.setAway_serving r serving stays)⟩,
    fun met talking => ?_, fun met wrap => ?_, fun met away => ?_⟩
  · refine (hs.aSet_ready tag met (State.setReady_ready ready)).trans ?_
    rw [s.drain_lawful law]
    exact congrArg Host.Outcome.next (s.toReply_replying .DONE .NONE _ 0x32 tag hs.2)
  · refine (hs.aSet_ready tag met (State.setReady_talking talking)).trans ?_
    rw [law.agentWritten_drain, State.agentWritten_agent, hs.agentWritten_replies]
    rfl
  · let m := s.agentWritten a (g.withPending .NONE) s.readyList
    have cleared : m.agent a = g.withPending .NONE := s.agentWritten_agent a _ _
    have handed := m.handedOver_rest a
    have ends : m.endWrap a false = (m.handedOver a).enterReady a (m.handedOver a).now := by
      rw [State.endWrap_ready (by rw [cleared]; rfl), State.handedOver_now]
    have enters := (m.handedOver a).enterReady_enters a
    obtain ⟨t, ht, closes, replies⟩ := hs.aSet_enters tag met (reason := reason)
      ((State.setReady_wrap wrap).trans (congrArg some ends)) (by rw [handed]; rfl)
    have wrapEnds := enters.wrapEnds
    rw [cleared] at wrapEnds
    refine ⟨t, ht, (wrapEnds.congr (s' := s) (by rw [cleared]; rfl) (by rw [cleared]; exact ⟨rfl, rfl⟩) (fun _ => rfl)
        rfl).closed closes, replies,
      enters.notReported law closes (by rw [handed]; rfl) (by rw [handed]; rfl) (by rw [handed]; rfl) ?_, ?_⟩
    · rw [State.handedOver_agent, cleared]; rfl
    · exact (State.sameLibrary_of_rest (by rw [handed]; rfl)).trans (enters.sameLibrary.trans closes.library)
  · let n := s.agentWritten a (g.awayCounted s.now) s.readyList
    have counted : n.agent a = g.awayCounted s.now := s.agentWritten_agent a _ _
    have enters := n.enterReady_enters a
    obtain ⟨t, ht, closes, replies⟩ := hs.aSet_enters (n := n) tag met (reason := reason) (State.setReady_away away) rfl
    have agent : t.agent a = _ := closes.agent_of enters.fields
    rw [counted] at agent
    have candidates : n.candidates a = s.candidates a := State.candidates_congr (fun _ => rfl) (fun _ => rfl)
      fun q => by rw [counted]; rfl
    refine ⟨t, ht, by rw [agent]; rfl, by rw [agent]; rfl, by rw [agent]; rfl, by rw [agent]; rfl, ?_,
      fun none => law.ready_still (n := n) rfl rfl (candidates.trans none) closes, replies,
      closes.treatment.trans enters.treatment, ?_⟩
    · rw [closes.readyList, agent]
      exact enters.entered
    · exact (State.sameLibrary_of_rest rfl).trans (enters.sameLibrary.trans closes.library)

end Sys2Proof.Machine
end

section
/-! PROOFS. O48 and O49: the agent a sweep chooses, and the queue a selection chooses (R67, R71 to R74). -/

namespace Sys2Proof.Machine

/-! ### The choice of an agent -/

/-- Settles O48: the choice is one of the agents of the ready list that qualify, the first under the policy's order. -/
theorem sweepsChooseByPolicy : Obligations.SweepsChooseByPolicy := by
  intro q s
  refine ⟨s.chooseAgent_none q, fun a chosen => ?_⟩
  obtain ⟨listed, qualifies⟩ := s.chooseAgent_mem q a chosen
  exact ⟨listed, qualifies, fun b hb hq hne => s.chooseAgent_first q a b chosen hb hq hne⟩

/-! ### The choice among queues -/

theorem bestQueue_eq_none (f : QueueId → Nat) (l : List QueueId) : bestQueue f l = none ↔ l = [] :=
  pickFirst_none _ l

/-- Of a list in ascending order the queue of highest figure is chosen, the lowest number among equals (R72, R73). -/
theorem bestQueue_first {f : QueueId → Nat} {l : List QueueId} {q : QueueId} (rising : l.Pairwise (· < ·))
    (h : bestQueue f l = some q) : ∀ r ∈ l, f r < f q ∨ (f r = f q ∧ q ≤ r) := by
  induction l generalizing q with
  | nil => simp
  | cons x xs ih =>
    obtain ⟨least, rising⟩ := List.pairwise_cons.mp rising
    simp only [bestQueue, pickFirst] at h
    split at h
    case h_2 none =>
      obtain rfl := Option.some.inj h
      rw [(pickFirst_none _ xs).mp none]
      simp
    case h_1 best found =>
      have among := ih rising found
      split at h
      case isTrue higher =>
        obtain rfl := Option.some.inj h
        exact List.forall_mem_cons.mpr ⟨.inl (of_decide_eq_true higher), among⟩
      case isFalse notHigher =>
        obtain rfl := Option.some.inj h
        have top : f best ≤ f x := by simpa using notHigher
        refine List.forall_mem_cons.mpr ⟨.inr ⟨rfl, le_rfl⟩, fun r hr => ?_⟩
        have below : f r ≤ f x := ((among r hr).elim Nat.le_of_lt fun e => e.1.le).trans top
        exact below.lt_or_eq.imp_right fun e => ⟨e, (least r hr).le⟩

section
variable (s : State) (a : AgentId)

theorem State.mem_candidates (q : QueueId) : q ∈ s.candidates a ↔ (s.queue q).mode.distribute = true ∧
    (s.queue q).waiting ≠ [] ∧ (s.agent a).qualifies (s.queue q) = true := by
  simp [State.candidates, and_assoc]

theorem State.candidates_eq_nil : s.candidates a = [] ↔ ∀ q, q ∉ s.candidates a := List.eq_nil_iff_forall_not_mem

theorem State.candidates_rising : (s.candidates a).Pairwise (· < ·) := (List.pairwise_lt_finRange 64).filter _

/-- A queue starves when its head call has waited the guard, which is not 0 (R72). -/
theorem State.starving_iff {q : QueueId} (waits : (s.queue q).waiting ≠ []) : s.starving q = true ↔
    (s.queue q).params.guard ≠ 0 ∧ (s.queue q).params.guard ≤ s.headWait q := by
  simp [State.starving, waits]

variable {s a}

/-- No queue is chosen exactly where there is no candidate (R71). -/
theorem State.selectQueue_eq_none : s.selectQueue a = none ↔ s.candidates a = [] := by
  unfold State.selectQueue
  dsimp only
  split
  case h_1 => exact bestQueue_eq_none _ _
  case h_2 starve =>
    rw [bestQueue_eq_none]
    exact ⟨fun none => absurd none starve, fun none => by rw [none]; rfl⟩

/-- Where a candidate starves, the starving candidate whose head call has waited longest is chosen (R72). -/
theorem State.selectQueue_starving {q : QueueId} (h : s.selectQueue a = some q)
    (starve : ∃ r ∈ s.candidates a, s.starving r = true) : s.starving q = true ∧
      ∀ r ∈ s.candidates a, s.starving r = true →
        s.headWait r < s.headWait q ∨ (s.headWait r = s.headWait q ∧ q ≤ r) := by
  unfold State.selectQueue at h
  dsimp only at h
  split at h
  case h_1 none =>
    obtain ⟨r, candidate, starves⟩ := starve
    exact absurd starves (List.filter_eq_nil_iff.mp none r candidate)
  case h_2 =>
    exact ⟨(List.mem_filter.mp (bestQueue_mem _ _ _ h)).2, fun r candidate starves =>
      bestQueue_first ((s.candidates_rising a).filter _) h r (List.mem_filter.mpr ⟨candidate, starves⟩)⟩

/-- Where none starves, the candidate of highest score is chosen (R73). -/
theorem State.selectQueue_scored {q : QueueId} (h : s.selectQueue a = some q)
    (none : ∀ r ∈ s.candidates a, ¬ s.starving r = true) :
    ∀ r ∈ s.candidates a, s.score a r < s.score a q ∨ (s.score a r = s.score a q ∧ q ≤ r) := by
  unfold State.selectQueue at h
  dsimp only at h
  rw [List.filter_eq_nil_iff.mpr none] at h
  exact bestQueue_first (s.candidates_rising a) h

/-! ### The score -/

theorem State.effectiveWait_le (q : QueueId) : s.effectiveWait q ≤ 65535 := by
  unfold State.effectiveWait
  split
  · exact Nat.min_le_right _ _
  · exact Nat.zero_le _

theorem Queue.effectiveWeight_le (r : Queue) : r.effectiveWeight ≤ 2 * r.params.weight := by
  unfold Queue.effectiveWeight
  split <;> omega

/-- The bound of R74: 65,535 × 64 + 255 × 8. -/
theorem State.score_le {q : QueueId} (weight : (s.queue q).params.weight ≤ 32)
    (gain : (s.queue q).params.skillGain ≤ 255) (least : 1 ≤ (s.queue q).params.minLevel)
    (level : (s.agent a).levelFor (s.queue q) ≤ 9) : s.score a q ≤ 4196280 := by
  have waited : s.effectiveWait q * (s.queue q).effectiveWeight ≤ 65535 * 64 :=
    Nat.mul_le_mul (s.effectiveWait_le q) ((s.queue q).effectiveWeight_le.trans (by omega))
  have skilled : (s.queue q).params.skillGain * ((s.agent a).levelFor (s.queue q) - (s.queue q).params.minLevel) ≤
      255 * 8 := Nat.mul_le_mul gain (by omega)
  unfold State.score
  omega

end

/-- Settles O49: the statement's wait, level and score are the model's, and the selection takes the best of the
candidates, the starving ones first. -/
theorem selectionPrefersStarvationThenScore : Obligations.SelectionPrefersStarvationThenScore := by
  intro a s candidate wait starving level boosted score
  have candidates : ∀ q, candidate q ↔ q ∈ s.candidates a := fun q => (s.mem_candidates a q).symm
  have waited : ∀ q, wait q = s.headWait q := fun q => by
    simp only [wait, State.headWait]
    cases (s.queue q).waiting <;> rfl
  have starves : ∀ q, starving q ↔ q ∈ s.candidates a ∧ s.starving q = true := fun q => by
    simp only [starving, waited, candidates]
    exact and_congr_right fun m => (s.starving_iff ((s.mem_candidates a q).mp m).2.1).symm
  have levels : ∀ q, level q = (s.agent a).levelFor (s.queue q) := fun q => by
    simp only [level, Agent.levelFor_eq]
    cases (s.agent a).skills.find? fun k => k.id = (s.queue q).params.skill <;> rfl
  have scored : ∀ q, score q = s.score a q := fun q => by
    have effective : min (wait q + boosted q) 65535 = s.effectiveWait q := by
      simp only [wait, boosted, State.effectiveWait]
      cases (s.queue q).waiting <;> rfl
    simp only [score, effective, levels]
    rfl
  clear_value candidate wait starving level score
  simp only [candidates, starves, waited, levels, scored]
  refine ⟨State.selectQueue_eq_none.trans (s.candidates_eq_nil a), fun q chosen => ⟨s.selectQueue_mem a q chosen,
    fun ⟨r, candidate, starve⟩ => ?_, fun none => ?_⟩, fun q _ weight gain least level =>
      State.score_le weight gain least level⟩
  · obtain ⟨first, longest⟩ := State.selectQueue_starving chosen ⟨r, candidate, starve⟩
    exact ⟨⟨s.selectQueue_mem a q chosen, first⟩, fun r ⟨candidate, starve⟩ => longest r candidate starve⟩
  · exact State.selectQueue_scored chosen fun r candidate starve => none r ⟨candidate, starve⟩

end Sys2Proof.Machine
end

section
/-! PROOFS. O24: C_ANSWER connects the call offered to the named agent, or is too late (R80 to R82). -/

namespace Sys2Proof.Machine

/-! ### The pair connected -/

/-- The backlog without a call that has been answered: the call leaves it unless its MOVED or its WITHDRAW mark is
pending (R81, R193). -/
def State.backlogAnswered (s : State) (k : CallId) : List RecordRef :=
  if (s.call k).marks.moved || (s.call k).marks.withdraw then s.notices.backlog else s.notices.backlog.erase (.call k)

section
variable (s : State) (k : CallId) (a : AgentId)

/-- The call connected to its agent, record by record (R81). -/
theorem State.connectedPair_eq : s.connectedPair k a =
    (((s.releasePlayer k).setCall k (({ s.call k with poolPlayer := none } : Call).answered s.now)).setNotices
      { s.notices with backlog := s.backlogAnswered k }).setAgent a
        { s.agent a with state := .TALKING, stateEntry := s.now } := by
  have rest := (s.releasePlayer_only k).rest
  have call : (s.releasePlayer k).call k = { s.call k with poolPlayer := none } := by
    rw [State.releasePlayer_call, if_pos rfl]
  have now : (s.releasePlayer k).now = s.now := (congrArg State.now rest :)
  have notices : (s.releasePlayer k).notices = s.notices := by
    unfold State.releasePlayer
    split <;> rfl
  have agent : (s.releasePlayer k).agent a = s.agent a := (congrArg (State.agent · a) rest :)
  have unmarked : (({ s.call k with poolPlayer := none } : Call).answered s.now).marks.isEmpty =
      !((s.call k).marks.moved || (s.call k).marks.withdraw) := by
    simp [Call.answered, Marks.isEmpty]
  let u := (s.releasePlayer k).setCall k (({ s.call k with poolPlayer := none } : Call).answered s.now)
  have dropped : (if (u.call k).marks.isEmpty then u.leaveBacklog (.call k) else u) =
      u.setNotices { s.notices with backlog := s.backlogAnswered k } := by
    rw [State.call_setCall, if_pos rfl, unmarked, State.backlogAnswered]
    have same : u.notices = s.notices := notices
    cases (s.call k).marks.moved || (s.call k).marks.withdraw
    · simp [State.leaveBacklog, same]
    · simp [← same, State.setNotices]
  unfold State.connectedPair
  dsimp only
  rw [call, now, dropped]
  simp only [State.agent_setNotices, State.now_setNotices, u, State.agent_setCall, State.now_setCall, agent, now]

/-! ### The answer -/

/-- A queue with one more call answered, after `wait` seconds (R82). -/
def Queue.answeredOnce (r : Queue) (wait : Nat) : Queue :=
  { r with counters := r.counters.addAnswered (decide (wait ≤ r.params.serviceTarget)) wait }

theorem Queue.answeredOnce_eq (r : Queue) (wait : Nat) : r.answeredOnce wait =
    { r with
      counters := { r.counters with
        answered := min (r.counters.answered + 1) 4294967295
        answeredInTarget := if wait ≤ r.params.serviceTarget then min (r.counters.answeredInTarget + 1) 4294967295
          else r.counters.answeredInTarget
        answerWaitTotal := if wait ≤ r.params.serviceTarget then min (r.counters.answerWaitTotal + wait) 4294967295
          else r.counters.answerWaitTotal } } := by
  by_cases inTarget : wait ≤ r.params.serviceTarget <;>
    simp [Queue.answeredOnce, QueueCounters.addAnswered, satAdd, Config.maxU32, inTarget]

theorem flagWord_decide (p : Prop) [Decidable p] : flagWord (decide p) = if p then 1 else 0 := by
  by_cases h : p <;> simp [flagWord, h]

/-- An answer touches the queue's counters, the call, its agent, the pool and the backlog (R81, R82). -/
theorem State.answer_rest : s.answer k a = { s with
    queues := (s.answer k a).queues, calls := (s.answer k a).calls, agents := (s.answer k a).agents
    treatment := { s.treatment with pool := (s.answer k a).treatment.pool }
    notices := { s.notices with backlog := s.backlogAnswered k } } := by
  have rest := (s.releasePlayer_only k).rest
  rw [State.answer_eq, State.connectedPair_eq]
  generalize s.releasePlayer k = u at rest
  rw [rest]
  rfl

theorem State.answer_call (j : CallId) : (s.answer k a).call j =
    if k = j then ({ s.call k with poolPlayer := none } : Call).answered s.now else s.call j := by
  rw [State.answer_eq, State.connectedPair_eq]
  simp only [State.count, State.call_setCounters, State.call_setAgent, State.call_setNotices, State.call_setCall,
    State.releasePlayer_call]
  split <;> rfl

theorem State.answer_agent (b : AgentId) : (s.answer k a).agent b =
    if a = b then { s.agent a with state := .TALKING, stateEntry := s.now } else s.agent b := by
  have agent : (s.releasePlayer k).agent b = s.agent b := (congrArg (State.agent · b) (s.releasePlayer_only k).rest :)
  rw [State.answer_eq, State.connectedPair_eq]
  simp only [State.count, State.agent_setCounters, State.agent_setAgent, State.agent_setNotices, State.agent_setCall,
    agent]

theorem State.answer_pool (p : PoolId) : (s.answer k a).pool p =
    if (s.call k).poolPlayer = some p then .idle else s.pool p := by
  rw [State.answer_eq, State.connectedPair_eq]
  exact s.releasePlayer_pool k p

theorem State.answer_queue (q : QueueId) : (s.answer k a).queue q =
    if (s.call k).queue = q then (s.queue q).answeredOnce (s.rawWait k) else s.queue q := by
  have queue : ∀ r, (s.connectedPair k a).queue r = s.queue r := fun r => by
    rw [State.connectedPair_eq]
    exact (s.releasePlayer_only k).queue r
  rw [State.answer_eq, State.count, State.queue_setCounters]
  simp only [queue]
  split
  case isTrue e => subst e; rfl
  case isFalse => rfl

end

/-! ### The request -/

section
variable {s : State} (hs : s.Taking) (tag : Tag) {k : CallId} {a : AgentId}
include hs

/-- The request by which the named agent answers the call offered to it (R81). -/
theorem State.Taking.cAnswer_offered (offered : (s.call k).state = .OFFERED) (toAgent : (s.call k).agent = some a) :
    exec (.cAnswer tag (s.handle k).word (word a.val)) s =
      .next ((s.answer k a).replying .DONE .NONE 0x21 tag
        [word (s.call k).queue.val, word (s.rawWait k),
          flagWord (decide (s.rawWait k ≤ (s.queue (s.call k).queue).params.serviceTarget))]) := by
  have live := s.live_handle k (by rw [offered]; decide)
  refine (hs.takes _ rfl).trans ?_
  simp only [State.cAnswerBody, live, idOf_agent, offered, toAgent, and_self, if_true]
  refine congrArg Host.Outcome.next (State.toReply_replying _ .DONE .NONE _ 0x21 tag ?_)
  rw [State.answer_rest]
  exact hs.2

/-- And the request that comes too late (R80). -/
theorem State.Taking.cAnswer_late (named : (s.call k).state ≠ .FREE)
    (late : ¬ ((s.call k).state = .OFFERED ∧ (s.call k).agent = some a)) :
    exec (.cAnswer tag (s.handle k).word (word a.val)) s = .next (s.replying .REFUSED .TOO_LATE 0x21 tag []) := by
  refine hs.answers rfl ?_
  simp only [State.cAnswerBody, s.live_handle k named, idOf_agent, late, if_false]
  rfl

end

/-- Settles O24: the answer of the call's own agent writes the records of the pair, the queue and the released player;
any other is refused. -/
theorem cAnswerConnectsTheOfferedCall : Obligations.CAnswerConnectsTheOfferedCall := by
  intro tag k a s hs named c r wait inTarget
  refine ⟨fun ⟨offered, toAgent⟩ => ?_, hs.cAnswer_late tag named⟩
  have rest := s.answer_rest k a
  have others := s.answer_call k a
  have agents := s.answer_agent k a
  have queues := s.answer_queue k a
  refine ⟨_, hs.cAnswer_offered tag offered toAgent, ⟨rfl, ?_⟩, ?_, ?_, ?_, fun q hq => ?_, fun j hj => ?_,
    fun b hb => ?_, s.answer_pool k a, ?_, ?_, ?_, ?_, ?_⟩
  · have reply : flagWord (decide (s.rawWait k ≤ r.params.serviceTarget)) = if inTarget then 1 else 0 :=
      flagWord_decide _
    rw [← reply]
    rfl
  · exact (others k).trans (if_pos rfl)
  · exact (agents a).trans (if_pos rfl)
  · exact (queues c.queue).trans ((if_pos rfl).trans (r.answeredOnce_eq wait))
  · exact (queues q).trans (if_neg (Ne.symm hq))
  · exact (others j).trans (if_neg (Ne.symm hj))
  · exact (agents b).trans (if_neg (Ne.symm hb))
  · exact (congrArg State.notices rest :)
  · exact (congrArg State.joinSeq rest :)
  · exact (congrArg State.readyList rest :)
  · exact (congrArg State.bus rest :)
  · exact (State.sameLibrary_of_rest (by rw [rest])).trans (State.replying_sameLibrary _ _ _ _ _ _)

end Sys2Proof.Machine
end

section
/-! PROOFS. The law of R70 while some agents and queues stand aside, and the changes that leave no call to a READY agent
which had none left to it before. -/

namespace Sys2Proof.Machine

/-! ### The law -/

/-- No waiting call is left to a READY agent that qualifies for its queue (R70), and every READY agent stands in the
ready list, where sweeps look for it (R50), the agents `A` and the queues `Q` standing aside. -/
structure State.NoneLeftBut (A : List AgentId) (Q : List QueueId) (s : State) : Prop where
  listed : ∀ a ∉ A, (s.agent a).state = .READY → a ∈ s.readyList
  unsuited : ∀ a ∉ A, ∀ q ∉ Q, (s.agent a).state = .READY → (s.queue q).mode.distribute = true →
    (s.queue q).waiting ≠ [] → (s.agent a).qualifies (s.queue q) = false

theorem State.NoneLeftWaiting.noneLeftBut {s : State} (h : s.NoneLeftWaiting) (agree : s.RecordsAgree) :
    s.NoneLeftBut [] [] :=
  ⟨fun a _ => (agree.ready a).mpr, fun a _ q _ => h a q⟩

theorem State.NoneLeftBut.noneLeftWaiting {s : State} (h : s.NoneLeftBut [] []) : s.NoneLeftWaiting :=
  fun a q => h.unsuited a List.not_mem_nil q List.not_mem_nil

/-- With every list empty and no agent READY nothing is left. -/
theorem State.noneLeftBut_of_empty {s : State} (lists : ∀ q, (s.queue q).waiting = [])
    (agents : ∀ a, (s.agent a).state ≠ .READY) : s.NoneLeftBut [] [] :=
  ⟨fun a _ ready => absurd ready (agents a), fun _ _ q _ _ _ waits => absurd (lists q) waits⟩

/-! ### What leaves no more than before -/

/-- The second record of an agent is READY only where the first is, and with its skills. -/
def Agent.NoReadier (g h : Agent) : Prop := h.state = .READY → g.state = .READY ∧ h.skills = g.skills

theorem Agent.NoReadier.refl (g : Agent) : g.NoReadier g := fun ready => ⟨ready, rfl⟩

theorem Agent.NoReadier.of_same {g h : Agent} (state : h.state = g.state) (skills : h.skills = g.skills) :
    g.NoReadier h := fun ready => ⟨state ▸ ready, skills⟩

theorem Agent.NoReadier.of_unready {g h : Agent} (unready : h.state ≠ .READY) : g.NoReadier h :=
  fun ready => absurd ready unready

/-- Qualification looks at an agent's skills alone (R65). -/
theorem Agent.qualifies_of_skills {g h : Agent} (e : h.skills = g.skills) (r : Queue) :
    h.qualifies r = g.qualifies r := by
  unfold Agent.qualifies Agent.level
  rw [e]

/-- The second record of a queue has the parameters of the first, and distributes and holds a call only where the first
does. -/
structure Queue.NoFuller (r r' : Queue) : Prop where
  params : r'.params = r.params
  distribute : r'.mode.distribute = true → r.mode.distribute = true
  waiting : r'.waiting ≠ [] → r.waiting ≠ []

theorem Queue.NoFuller.refl (r : Queue) : r.NoFuller r := ⟨rfl, id, id⟩

/-- Between two states nothing that R70 speaks of has grown but for the agents `A` and the queues `Q`: no agent has
become READY or left the ready list READY, no queue has come to distribute or to hold a call. -/
structure State.Eases (A : List AgentId) (Q : List QueueId) (s t : State) : Prop where
  agents : ∀ a ∉ A, (s.agent a).NoReadier (t.agent a)
  listed : ∀ a ∉ A, (t.agent a).state = .READY → a ∈ s.readyList → a ∈ t.readyList
  queues : ∀ q ∉ Q, (s.queue q).NoFuller (t.queue q)

section
variable {A : List AgentId} {Q : List QueueId} {s t u : State}

theorem State.NoneLeftBut.eases (h : s.NoneLeftBut A Q) (e : s.Eases A Q t) : t.NoneLeftBut A Q where
  listed a ha ready := e.listed a ha ready (h.listed a ha (e.agents a ha ready).1)
  unsuited a ha q hq ready on waits := by
    obtain ⟨wasReady, skills⟩ := e.agents a ha ready
    obtain ⟨params, distribute, waiting⟩ := e.queues q hq
    rw [Agent.qualifies_of_skills skills, Agent.qualifies_congr _ params]
    exact h.unsuited a ha q hq wasReady (distribute on) (waiting waits)

theorem State.Eases.trans (e : s.Eases A Q t) (e' : t.Eases A Q u) : s.Eases A Q u where
  agents a ha ready :=
    let ⟨midway, skills'⟩ := e'.agents a ha ready
    let ⟨first, skills⟩ := e.agents a ha midway
    ⟨first, skills'.trans skills⟩
  listed a ha ready m := e'.listed a ha ready (e.listed a ha (e'.agents a ha ready).1 m)
  queues q hq :=
    let r := e.queues q hq
    let r' := e'.queues q hq
    ⟨r'.params.trans r.params, fun on => r.distribute (r'.distribute on), fun waits => r.waiting (r'.waiting waits)⟩

/-- The queues, the agents and the ready list are the same. -/
theorem State.eases_of_tables (queues : t.queues = s.queues) (agents : t.agents = s.agents)
    (ready : t.readyList = s.readyList) : s.Eases A Q t := by
  have queue : ∀ q, t.queue q = s.queue q := fun q => by unfold State.queue; rw [queues]
  have agent : ∀ a, t.agent a = s.agent a := fun a => by unfold State.agent; rw [agents]
  exact ⟨fun a _ => by rw [agent]; exact .refl _, fun a _ _ m => ready ▸ m, fun q _ => by rw [queue]; exact .refl _⟩

theorem State.Eases.refl (s : State) : s.Eases A Q s := State.eases_of_tables rfl rfl rfl

/-! ### One record written -/

theorem State.setCall_eases (s : State) (k : CallId) (c : Call) : s.Eases A Q (s.setCall k c) :=
  State.eases_of_tables rfl rfl rfl

theorem State.setAgent_eases {a : AgentId} {g : Agent} (h : a ∉ A → (s.agent a).NoReadier g) :
    s.Eases A Q (s.setAgent a g) := by
  refine ⟨fun b hb => ?_, fun _ _ _ m => m, fun _ _ => .refl _⟩
  rw [State.agent_setAgent]
  split
  case isTrue e => subst e; exact h hb
  case isFalse => exact .refl _

theorem State.setQueue_eases {q : QueueId} {r : Queue} (h : q ∉ Q → (s.queue q).NoFuller r) :
    s.Eases A Q (s.setQueue q r) := by
  refine ⟨fun _ _ => .refl _, fun _ _ _ m => m, fun x hx => ?_⟩
  rw [State.queue_setQueue]
  split
  case isTrue e => subst e; exact h hx
  case isFalse => exact .refl _

theorem State.markCall_eases (s : State) (k : CallId) (kind : NoticeKind) : s.Eases A Q (s.markCall k kind) := by
  rw [State.markCall_eq]
  exact State.eases_of_tables rfl rfl rfl

theorem State.markAgent_eases (s : State) (a : AgentId) : s.Eases A Q (s.markAgent a) := by
  rw [State.markAgent_eq]
  exact State.setAgent_eases (s := s) (g := { s.agent a with mark := true }) (fun _ => .of_same rfl rfl) |>.trans
    (State.eases_of_tables rfl rfl rfl)

theorem State.count_eases (s : State) (q : QueueId) (f : QueueCounters → QueueCounters) : s.Eases A Q (s.count q f) :=
  State.setQueue_eases fun _ => ⟨rfl, id, id⟩

/-! ### What the shared operations leave -/

theorem State.OnlyNotices.eases (h : s.OnlyNotices t) : s.Eases A Q t := by
  have queue : ∀ q, t.queue q = s.queue q := fun q => by unfold State.queue; rw [h.queues]
  refine ⟨fun a _ => ?_, fun a _ _ m => h.readyList ▸ m, fun q _ => by rw [queue]; exact .refl _⟩
  rw [h.agents a]
  exact .of_same rfl rfl

theorem State.OnlyTreatment.eases {k : CallId} (h : s.OnlyTreatment t k) : s.Eases A Q t := by
  rw [h.rest]
  exact State.eases_of_tables rfl rfl rfl

theorem State.OnlyDiverted.eases (h : s.OnlyDiverted t) : s.Eases A Q t :=
  ⟨fun a _ => by rw [h.agent]; exact .refl _, fun _ _ _ m => h.readyList ▸ m,
    fun q _ => by rw [h.queue]; exact ⟨rfl, id, id⟩⟩

/-- A call that leaves a list puts none in it (R24). -/
theorem State.leaveList_eases (s : State) (q : QueueId) (k : CallId) : s.Eases A Q (s.leaveList q k) :=
  State.setQueue_eases fun _ => ⟨rfl, id, fun left empty => left (by rw [empty]; rfl)⟩

/-- An offer takes a call and an agent out of their lists (R75, R76). -/
theorem State.offer_eases (s : State) (q : QueueId) (k : CallId) (a : AgentId) : s.Eases A Q (s.offer q k a) := by
  have other : ∀ b, ((s.offer q k a).agent b).state = .READY → a ≠ b ∧ (s.offer q k a).agent b = s.agent b := by
    intro b
    rw [State.offer_agent]
    split
    case isTrue => exact fun ready => nomatch ready
    case isFalse h => exact fun _ => ⟨h, rfl⟩
  refine ⟨fun b _ ready => ?_, fun b _ ready m => ?_, fun r _ => ?_⟩
  · obtain ⟨-, same⟩ := other b ready
    rw [same] at ready ⊢
    exact ⟨ready, rfl⟩
  · rw [State.offer_readyList]
    exact (List.mem_erase_of_ne (other b ready).1.symm).mpr m
  · rw [State.offer_queue]
    split
    case isTrue e => subst e; exact ⟨rfl, id, fun left empty => left (by rw [empty]; rfl)⟩
    case isFalse => exact .refl _

/-- And so does a sweep (R68). -/
theorem State.sweep_eases (s : State) (q : QueueId) : s.Eases A Q (s.sweep q) :=
  State.sweep_induct (s.Eases A Q) q (fun u k a _ e _ _ => e.trans (u.offer_eases q k a)) s (.refl s)

/-! ### What stands aside, and what brings it back -/

namespace State.NoneLeftBut

theorem asideQueue (h : s.NoneLeftBut A Q) (q : QueueId) : s.NoneLeftBut A (q :: Q) :=
  ⟨h.listed, fun a ha r hr => h.unsuited a ha r fun m => hr (List.mem_cons_of_mem _ m)⟩

theorem asideAgent (h : s.NoneLeftBut A Q) (a : AgentId) : s.NoneLeftBut (a :: A) Q :=
  ⟨fun b hb => h.listed b fun m => hb (List.mem_cons_of_mem _ m),
    fun b hb => h.unsuited b fun m => hb (List.mem_cons_of_mem _ m)⟩

/-- The sweep of a queue that stood aside leaves none of its calls to a READY agent (R68). -/
theorem sweep {q : QueueId} (h : s.NoneLeftBut A (q :: Q)) : (s.sweep q).NoneLeftBut A Q := by
  obtain ⟨listed, swept⟩ := h.eases (s.sweep_eases q)
  refine ⟨listed, fun a ha r hr ready on waits => ?_⟩
  by_cases own : r = q
  · subst own
    obtain ⟨-, -, -, ends⟩ := s.sweep_offers r
    rw [(s.sweep_queue r r).1] at on
    exact (ends on).resolve_left waits a (listed a ha ready)
  · exact swept a ha r (fun m => (List.mem_cons.mp m).elim own hr) ready on waits

/-- An agent that stood aside and is not READY. -/
theorem putBack {a : AgentId} (h : s.NoneLeftBut (a :: A) Q) (apart : (s.agent a).state ≠ .READY) :
    s.NoneLeftBut A Q := by
  have stands : ∀ b ∉ A, (s.agent b).state = .READY → b ∉ a :: A := fun b hb ready m =>
    (List.mem_cons.mp m).elim (fun e => apart (e ▸ ready)) hb
  exact ⟨fun b hb ready => h.listed b (stands b hb ready) ready,
    fun b hb q hq ready => h.unsuited b (stands b hb ready) q hq ready⟩

/-- Queue selection for a listed agent that stood aside leaves no call to it: it is offered one, or has no candidate
(R71). -/
theorem select {a : AgentId} (h : s.NoneLeftBut (a :: A) Q) (listed : a ∈ s.readyList) :
    (s.select a).NoneLeftBut A Q := by
  cases chosen : s.selectQueue a with
  | none =>
    have idle : s.select a = s := s.select_none a (State.selectQueue_eq_none.mp chosen)
    have noCandidate := (s.candidates_eq_nil a).mp (State.selectQueue_eq_none.mp chosen)
    rw [idle]
    refine ⟨fun b hb ready => ?_, fun b hb q hq ready on waits => ?_⟩
    · by_cases e : b = a
      · exact e ▸ listed
      · exact h.listed b (fun m => (List.mem_cons.mp m).elim e hb) ready
    · by_cases e : b = a
      · subst e
        exact Bool.eq_false_iff.mpr fun qualifies => noCandidate q ((s.mem_candidates b q).mpr ⟨on, waits, qualifies⟩)
      · exact h.unsuited b (fun m => (List.mem_cons.mp m).elim e hb) q hq ready on waits
  | some q =>
    obtain ⟨-, waits, -⟩ := (s.mem_candidates a q).mp (s.selectQueue_mem a q chosen)
    obtain ⟨k, rest, head⟩ := List.exists_cons_of_ne_nil waits
    rw [State.select_offers chosen head]
    refine (h.eases (s.offer_eases q k a)).putBack ?_
    rw [State.offer_agent, if_pos rfl]
    exact nofun

end State.NoneLeftBut
end
end Sys2Proof.Machine
end

section
/-! PROOFS. The operations that move calls and agents leave no call to a READY agent: joins, moves, wraps, endings,
expiries, definitions and the changes of agents (chapters 1 to 5). -/

namespace Sys2Proof.Machine

section
variable {A : List AgentId} {Q : List QueueId} {s t : State}

/-! ### Operations that ease -/

/-- A join puts a call in its own queue alone (R25). -/
theorem State.join_eases (s : State) (k : CallId) (q : QueueId) : s.Eases A (q :: Q) (s.join k q) := by
  refine ⟨fun a _ => by rw [State.join_agent]; exact .refl _, fun a _ _ m => ?_, fun r hr => ?_⟩
  · rw [State.join_rest]; exact m
  · rw [State.join_queue_other s k q fun e => hr (e ▸ List.mem_cons_self)]; exact .refl _

theorem State.walk_eases (s : State) (visited : List QueueId) (q : QueueId) : s.Eases A Q (s.walk visited q).1 :=
  (State.walkBy_only 4 visited q s).eases

theorem State.enterList_eases (s : State) (q : QueueId) (k : CallId) : s.Eases A (q :: Q) (s.enterList q k) :=
  State.setQueue_eases fun h => absurd List.mem_cons_self h

theorem State.departQueue_eases (s : State) (k : CallId) (overflow : Bool) : s.Eases A Q (s.departQueue k overflow) :=
  ((s.endTreatment_only k).eases.trans (State.leaveList_eases _ _ k)).trans
    (State.count_eases _ (s.call k).queue (·.addMovedOut overflow))

theorem State.countMove_eases (s : State) (k : CallId) : s.Eases A Q (s.countMove k) := s.setCall_eases k _

theorem State.markMoved_eases (s : State) (k : CallId) (old : QueueId) : s.Eases A Q (s.markMoved k old) :=
  (s.setCall_eases k _).trans (State.markCall_eases _ k .MOVED)

theorem State.countAbandoned_eases (s : State) (k : CallId) : s.Eases A Q (s.countAbandoned k) :=
  s.count_eases (s.call k).queue
    (·.addAbandoned (decide (s.rawWait k < (s.queue (s.call k).queue).params.shortAbandon)))

/-- A freed slot leaves its list (R30). -/
theorem State.freeCall_eases (s : State) (k : CallId) : s.Eases A Q (s.freeCall k) := by
  have released : s.Eases A Q (s.releasePlayer k) := (s.releasePlayer_only k).eases
  have dropped : ∀ u : State, u.Eases A Q ((u.dropMarks k).setCall k (.free (((u.dropMarks k).call k).gen + 1))) :=
    fun _ => State.eases_of_tables rfl rfl rfl
  unfold State.freeCall
  dsimp only
  split
  · exact (released.trans (State.leaveList_eases _ _ k)).trans (dropped _)
  · exact released.trans (dropped _)

/-- An answer makes its agent TALKING (R81). -/
theorem State.answer_eases (s : State) (k : CallId) (a : AgentId) : s.Eases A Q (s.answer k a) := by
  have released : s.Eases A Q (s.releasePlayer k) := (s.releasePlayer_only k).eases
  have dropped : ∀ u : State, u.Eases A Q (if (u.call k).marks.isEmpty then u.leaveBacklog (.call k) else u) := by
    intro u
    split
    · exact State.eases_of_tables rfl rfl rfl
    · exact .refl u
  have connected : s.Eases A Q (s.connectedPair k a) := ((released.trans (State.setCall_eases _ k _)).trans
    (dropped _)).trans (State.setAgent_eases fun _ => .of_unready (by nofun))
  rw [State.answer_eq]
  exact connected.trans (State.count_eases _ _ _)

/-- The hand-over of a wrap is about counters and the AHT (R100). -/
theorem State.countWrap_eases (s : State) (q : QueueId) (talk w : Nat) : s.Eases A Q (s.countWrap q talk w) := by
  rw [State.countWrap_eq]
  exact State.setQueue_eases (s := s) fun _ => ⟨rfl, id, id⟩

theorem State.enterWrap_eases (s : State) (a : AgentId) (q : QueueId) (talk : Nat) :
    s.Eases A Q (s.enterWrap a q talk) := State.setAgent_eases fun _ => .of_unready (by nofun)

theorem State.releaseAgent_eases (s : State) (a : AgentId) : s.Eases A Q (s.releaseAgent a) :=
  (State.setAgent_eases fun _ => .of_unready (by nofun)).trans (State.markAgent_eases _ a)

theorem State.withdraw_eases (s : State) (k : CallId) (a : AgentId) : s.Eases A Q (s.withdraw k a) :=
  (s.setCall_eases k _).trans (State.markCall_eases _ k .WITHDRAW)

/-- A list in another order holds a call where it did (R25). -/
theorem State.resort_eases (s : State) (q : QueueId) : s.Eases A Q (s.resort q) := by
  refine State.setQueue_eases fun _ => ⟨rfl, id, fun left empty => left ?_⟩
  exact List.perm_nil.mp ((s.inOrder_perm (s.queue q).params.classBoost (s.queue q).waiting).trans (.of_eq empty))

/-- Before its sweep a Q_DEFINE touches its own queue alone (R14 to R18). -/
theorem State.redefined_eases (s : State) (q : QueueId) (d : QDefinition) : s.Eases A (q :: Q) (s.redefined q d) := by
  refine ⟨fun a _ => by rw [State.redefined_agent]; exact .refl _,
    fun a _ _ m => by rw [State.redefined_readyList]; exact m, fun r hr => ?_⟩
  rw [State.redefined_queue, if_neg fun e : q = r => hr (e ▸ List.mem_cons_self)]
  exact .refl _

theorem State.setPending_eases (s : State) (a : AgentId) (p : PendingChange) : s.Eases A Q (s.setPending a p) :=
  State.setAgent_eases fun _ => .of_same rfl rfl

theorem State.countAway_eases (s : State) (a : AgentId) : s.Eases A Q (s.countAway a) :=
  State.setAgent_eases fun _ => .of_same rfl rfl

theorem State.leaveReady_eases (s : State) (a : AgentId) : s.Eases (a :: A) Q (s.leaveReady a) :=
  ⟨fun _ _ => .refl _, fun _ hb _ m => (List.mem_erase_of_ne (List.ne_of_not_mem_cons hb)).mpr m, fun _ _ => .refl _⟩

theorem State.setAgent_aside_eases (s : State) (a : AgentId) (g : Agent) : s.Eases (a :: A) Q (s.setAgent a g) :=
  State.setAgent_eases fun h => absurd List.mem_cons_self h

theorem State.joinReady_eases (s : State) (a : AgentId) : s.Eases A Q (s.joinReady a) :=
  ⟨fun _ _ => .refl _, fun _ _ _ m => (insertWhere_perm _ _ _).mem_iff.mpr (List.mem_cons_of_mem _ m),
    fun _ _ => .refl _⟩

namespace State.NoneLeftBut

/-- An agent that stood aside is written back, not READY. -/
theorem writeUnready {a : AgentId} {g : Agent} (h : s.NoneLeftBut (a :: A) Q) (unready : g.state ≠ .READY) :
    (s.setAgent a g).NoneLeftBut A Q := by
  refine (h.eases (s.setAgent_aside_eases a g)).putBack ?_
  rwa [State.agent_setAgent, if_pos rfl]

/-- An agent that stood aside enters READY, with the selection this runs (R51, R71). -/
theorem enterReady {a : AgentId} (h : s.NoneLeftBut (a :: A) Q) (since : Nat) :
    (s.enterReady a since).NoneLeftBut A Q :=
  ((h.eases (s.setAgent_aside_eases a _)).eases (State.joinReady_eases _ a)).select
    ((insertWhere_perm _ _ _).mem_iff.mpr List.mem_cons_self)

/-- The agent of an abandoned offer returns to READY (R88). -/
theorem returnAgent (h : s.NoneLeftBut A Q) (a : AgentId) (since : Nat) : (s.returnAgent a since).NoneLeftBut A Q :=
  ((h.asideAgent a).eases (s.setAgent_aside_eases a { s.agent a with call := none })).enterReady since

/-! ### Joins and moves of calls -/

/-- A call joins a queue, and the join settles (R29). -/
theorem joins (h : s.NoneLeftBut A Q) (k : CallId) (q : QueueId) : ((s.join k q).settleJoin k q).NoneLeftBut A Q := by
  have swept := ((h.asideQueue q).eases (s.join_eases k q)).sweep
  unfold State.settleJoin
  dsimp only
  split
  · exact swept.eases (State.beginTreatment_only _ k).eases
  · exact swept

theorem arrive (h : s.NoneLeftBut A Q) (k : CallId) (q : QueueId) (callerTag : Word) (cls : Nat) :
    (s.arrive k q callerTag cls).NoneLeftBut A Q := (h.eases (s.setCall_eases k _)).joins k q

theorem moveQueued (h : s.NoneLeftBut A Q) (k : CallId) (q : QueueId) : (s.moveQueued k q).NoneLeftBut A Q :=
  ((h.eases (s.departQueue_eases k false)).eases (State.countMove_eases _ k)).joins k q

theorem requeue (h : s.NoneLeftBut A Q) (k : CallId) (q : QueueId) : (s.requeue k q).NoneLeftBut A Q :=
  ((h.eases (s.setCall_eases k _)).eases (State.countMove_eases _ k)).joins k q

theorem overflowMove (h : s.NoneLeftBut A Q) (k : CallId) (target : QueueId) :
    (s.overflowMove k target).NoneLeftBut A Q :=
  (((h.eases (s.departQueue_eases k true)).eases (State.countMove_eases _ k)).eases
    (State.markMoved_eases _ k (s.call k).queue)).joins k target

theorem overflowAttempt (h : s.NoneLeftBut A Q) (k : CallId) : (s.overflowAttempt k).NoneLeftBut A Q := by
  unfold State.overflowAttempt
  split
  case h_2 => exact h
  case h_1 target _ =>
    split
    · exact h.overflowMove k target
    · exact (h.eases (s.divert_only target).eases).eases (State.setCall_eases _ k _)

/-- A withdrawn call returns to its queue, which is swept (R84, R86). -/
theorem returnCall (h : s.NoneLeftBut A Q) (k : CallId) : (s.returnCall k).NoneLeftBut A Q := by
  have returned := ((h.eases (s.setCall_eases k { s.call k with state := .QUEUED, overflowDue := false })).asideQueue
    (s.call k).queue).eases (State.enterList_eases _ (s.call k).queue k)
  unfold State.returnCall
  dsimp only
  refine State.NoneLeftBut.sweep ?_
  split
  · exact returned.eases (State.beginTreatment_only _ k).eases
  · exact returned

theorem settleWithdrawn (h : s.NoneLeftBut A Q) (k : CallId) : (s.settleWithdrawn k).NoneLeftBut A Q := by
  unfold State.settleWithdrawn
  dsimp only
  split
  case isFalse => exact h.returnCall k
  case isTrue =>
    split
    case h_2 => exact h.returnCall k
    case h_1 target _ =>
      split
      · exact h.overflowMove k target
      · exact ((h.eases (s.divert_only target).eases).eases (State.setCall_eases _ k _)).returnCall k

/-! ### Wraps -/

/-- The end of a wrap, by the pending it applies (R99 to R102). -/
theorem endWrap (h : s.NoneLeftBut A Q) (a : AgentId) (expiry : Bool) : (s.endWrap a expiry).NoneLeftBut A Q := by
  have marked : ∀ {A} (u : State), u.Eases A Q (if expiry then u.markAgent a else u) := fun u => by
    split
    · exact u.markAgent_eases a
    · exact .refl u
  obtain ⟨u, hu, ends⟩ := s.endWrap_cases a expiry
  have aside : u.NoneLeftBut (a :: A) Q := by
    rw [hu]
    exact ((h.asideAgent a).eases (s.countWrap_eases _ _ _)).eases (State.setAgent_aside_eases _ a _)
  rw [ends]
  split
  case h_1 => exact (aside.eases (marked u)).enterReady s.now
  case h_2 => exact (aside.writeUnready (by nofun)).eases (marked _)
  case h_3 => exact (aside.writeUnready (by nofun)).eases (marked _)

theorem endWrapAtEntry (h : s.NoneLeftBut A Q) (a : AgentId) (q : QueueId) :
    (s.endWrapAtEntry a q).NoneLeftBut A Q := by
  unfold State.endWrapAtEntry
  split
  · exact h.endWrap a true
  · exact h

theorem wrapTransfer (h : s.NoneLeftBut A Q) (agent : Option AgentId) (q : QueueId) (talk : Nat) :
    (s.wrapTransfer agent q talk).NoneLeftBut A Q := by
  unfold State.wrapTransfer
  split
  case h_1 a => exact (h.eases (s.enterWrap_eases a q talk)).endWrapAtEntry a q
  case h_2 => exact h

theorem moveTo (h : s.NoneLeftBut A Q) (k : CallId) (q : QueueId) : (s.moveTo k q).NoneLeftBut A Q := by
  unfold State.moveTo
  dsimp only
  split
  · exact h.moveQueued k q
  · exact (h.requeue k q).wrapTransfer _ _ _

/-! ### Queues -/

/-- A C_CLASS moves a call within its list (R37). -/
theorem reclass (h : s.NoneLeftBut A Q) (k : CallId) (cls : Nat) : (s.reclass k cls).NoneLeftBut A Q := by
  have stored := h.eases (s.setCall_eases k { s.call k with cls := cls })
  unfold State.reclass
  dsimp only
  split
  case isFalse => exact stored
  case isTrue =>
    have sorted := stored.eases (State.resort_eases _ (s.call k).queue)
    split
    · exact sorted
    · exact sorted.eases (State.sweep_eases _ _)

/-- A Q_DEFINE ends with a sweep of its queue (R19). -/
theorem define (h : s.NoneLeftBut A Q) (q : QueueId) (d : QDefinition) : (s.define q d).NoneLeftBut A Q := by
  rw [State.define_eq]
  exact ((h.asideQueue q).eases (s.redefined_eases q d)).sweep

/-- A Q_MODE sweeps its queue where the queue comes to distribute (R6). -/
theorem changeMode (h : s.NoneLeftBut A Q) (q : QueueId) (m : QMode) : (s.changeMode q m).NoneLeftBut A Q := by
  unfold State.changeMode
  dsimp only
  split
  case isTrue =>
    exact ((h.asideQueue q).eases (State.setQueue_eases fun aside => absurd List.mem_cons_self aside)).sweep
  case isFalse noGain =>
    refine h.eases (State.setQueue_eases fun _ => ⟨rfl, fun on => ?_, id⟩)
    by_contra off
    exact noGain (by simpa [on] using off)

/-! ### Agents -/

theorem login (h : s.NoneLeftBut A Q) (a : AgentId) (station : Nat) (skills : List Skill) (away : Option (Fin 16)) :
    (s.login a station skills away).NoneLeftBut A Q := by
  have signed := (h.asideAgent a).eases (s.setAgent_aside_eases a ((s.agent a).signIn station skills s.now))
  unfold State.login
  dsimp only
  split
  · exact signed.enterReady _
  · exact signed.writeUnready (by nofun)

theorem logout (h : s.NoneLeftBut A Q) {a : AgentId} (done : s.logout a = some t) : t.NoneLeftBut A Q := by
  unfold State.logout at done
  split at done
  case h_1 => exact nomatch done
  case h_4 => exact nomatch done
  all_goals obtain rfl := Option.some.inj done
  case h_2 => exact ((h.eases (s.countAway_eases a)).asideAgent a).writeUnready (by nofun)
  case h_3 => exact ((h.asideAgent a).eases (s.leaveReady_eases a)).writeUnready (by nofun)
  case h_5 => exact h.eases (s.setPending_eases a _)
  case h_6 => exact h.eases (s.setPending_eases a _)

theorem setReady (h : s.NoneLeftBut A Q) {a : AgentId} (done : s.setReady a = some t) : t.NoneLeftBut A Q := by
  unfold State.setReady at done
  split at done
  case h_1 => exact nomatch done
  case h_4 => exact nomatch done
  all_goals obtain rfl := Option.some.inj done
  case h_2 => exact ((h.eases (s.countAway_eases a)).asideAgent a).enterReady s.now
  case h_3 => exact h
  case h_5 => exact h.eases (s.setPending_eases a _)
  case h_6 => exact (h.eases (s.setPending_eases a _)).endWrap a false

theorem setAway (h : s.NoneLeftBut A Q) {a : AgentId} {r : Fin 16} (done : s.setAway a r = some t) :
    t.NoneLeftBut A Q := by
  have pends : (if (s.agent a).pending = .LOGOUT then none else some (s.setPending a (.AWAY r))) = some t →
      t.NoneLeftBut A Q := fun done => by
    split at done
    · exact nomatch done
    · obtain rfl := Option.some.inj done
      exact h.eases (s.setPending_eases a _)
  unfold State.setAway at done
  split at done
  case h_1 => exact nomatch done
  case h_2 =>
    obtain rfl := Option.some.inj done
    exact h.eases (State.setAgent_eases fun _ => .of_same rfl rfl)
  case h_3 =>
    obtain rfl := Option.some.inj done
    exact ((h.asideAgent a).eases (s.leaveReady_eases a)).writeUnready (by nofun)
  case h_4 => exact nomatch done
  case h_5 => exact pends done
  case h_6 => exact pends done

/-- A_SKILLS runs queue selection for a READY agent (R62). -/
theorem reskill (h : s.NoneLeftBut A Q) {a : AgentId} (ha : a ∉ A) (skills : List Skill) :
    (s.reskill a skills).NoneLeftBut A Q := by
  have stored := (h.asideAgent a).eases (s.setAgent_aside_eases a { s.agent a with skills := skills })
  unfold State.reskill
  dsimp only
  split
  case isTrue ready => exact stored.select (h.listed a ha (by simpa using ready))
  case isFalse unready => exact stored.putBack unready

end State.NoneLeftBut
end
end Sys2Proof.Machine
end

section
/-! PROOFS. The commands that leave the records of queues, calls and agents as they are: those of the port, the store,
the library and the time base, and the requests that read (chapters 7 to 10). -/

namespace Sys2Proof

/-- The commands that touch none of the tables of queues, calls and agents, whatever the state. -/
def Instr.sparesTables : Instr → Bool
  | .fillComplete | .reqaddrWrite _ | .fetchRefused _ _ | .fetchBusFault _ _ | .replyComplete | .replyWriteFault _
  | .causeClear _ | .undecodedWrite _ _ | .setup _ _ _ _ _ => true
  | .qQuery _ _ | .qList _ _ _ _ _ | .cQuery _ _ | .aQuery _ _ => true
  | .sMap _ _ | .sAttr _ _ _ | .sLoad _ _ _ _ _ | .clipDefine _ _ _ _ _ => true
  | .progDefine _ _ _ _ | .speechDefine _ _ => true
  | .loadGroupWrite _ _ _ _ | .loadComplete | .loadBusFault => true
  | .oscillatorPeriod | .secondBoundary | .holdoverEntry | .runTimeout => true
  | _ => false

end Sys2Proof

namespace Sys2Proof.Machine

/-- Two states have the same queues, calls and agents, the same ready list and the same join sequence. -/
structure State.SameTables (s t : State) : Prop where
  queues : t.queues = s.queues
  joinSeq : t.joinSeq = s.joinSeq
  calls : t.calls = s.calls
  agents : t.agents = s.agents
  readyList : t.readyList = s.readyList

theorem State.SameTables.refl (s : State) : s.SameTables s := ⟨rfl, rfl, rfl, rfl, rfl⟩

theorem State.SameTables.trans {s t u : State} (h : s.SameTables t) (h' : t.SameTables u) : s.SameTables u :=
  ⟨h'.queues.trans h.queues, h'.joinSeq.trans h.joinSeq, h'.calls.trans h.calls, h'.agents.trans h.agents,
    h'.readyList.trans h.readyList⟩

/-- A request has a property of its outcome where the state has it, what it does at its owning block has it, and a
reply keeps it. -/
theorem LeadsTo.takeRequest {P : State → Prop} {s : State} {b : Block} {body : State → State × Answer}
    (reply : ∀ u r, P u → P (u.toReply r)) (stays : P s) (does : P (body s).1) :
    LeadsTo P (Machine.takeRequest b s body) := by
  unfold Machine.takeRequest fetched
  split
  · split
    · exact .next (reply _ _ stays)
    · exact .next (reply _ _ does)
  · exact .next stays

section
variable (s : State)

theorem State.setStore_sameTables (v : ClipStore) : s.SameTables (s.setStore v) := ⟨rfl, rfl, rfl, rfl, rfl⟩

theorem State.setTreatment_sameTables (v : Treatment) : s.SameTables (s.setTreatment v) := ⟨rfl, rfl, rfl, rfl, rfl⟩

theorem State.setTimeBase_sameTables (v : TimeBase) : s.SameTables (s.setTimeBase v) := ⟨rfl, rfl, rfl, rfl, rfl⟩

theorem State.setPort_sameTables (v : Port) : s.SameTables (s.setPort v) := ⟨rfl, rfl, rfl, rfl, rfl⟩

theorem State.setNotices_sameTables (v : NoticeUnit) : s.SameTables (s.setNotices v) := ⟨rfl, rfl, rfl, rfl, rfl⟩

theorem State.writeBus_sameTables (ws : List BusWrite) : s.SameTables (s.writeBus ws) := ⟨rfl, rfl, rfl, rfl, rfl⟩

theorem State.noteLoadRead_sameTables (a : Nat) : s.SameTables (s.noteLoadRead a) := ⟨rfl, rfl, rfl, rfl, rfl⟩

theorem State.toReply_sameTables (r : Reply) : s.SameTables (s.toReply r) := by
  unfold State.toReply
  split <;> exact ⟨rfl, rfl, rfl, rfl, rfl⟩

/-- A request spares the tables where its body does. -/
theorem takeRequest_sameTables {b : Block} {body : State → State × Answer} (does : s.SameTables (body s).1) :
    LeadsTo s.SameTables (takeRequest b s body) :=
  .takeRequest (fun u r h => h.trans (u.toReply_sameTables r)) (.refl s) does

/-! ### The bodies of the requests -/

theorem State.setupBody_sameTables (area ring count enables : Word) :
    s.SameTables (State.setupBody area ring count enables s).1 := by
  unfold State.setupBody
  split
  · exact .refl s
  · exact (s.setPort_sameTables _).trans (State.setNotices_sameTables _ _)

theorem State.qQueryBody_sameTables (queue : Word) : s.SameTables (State.qQueryBody queue s).1 := by
  unfold State.qQueryBody
  split <;> exact .refl s

theorem State.qListBody_sameTables (queue start maximum minWait : Word) :
    s.SameTables (State.qListBody queue start maximum minWait s).1 := by
  unfold State.qListBody
  split
  · exact .refl s
  · split <;> exact .refl s

theorem State.cQueryBody_sameTables (handle : Word) : s.SameTables (State.cQueryBody handle s).1 := by
  unfold State.cQueryBody
  split <;> exact .refl s

theorem State.aQueryBody_sameTables (agent : Word) : s.SameTables (State.aQueryBody agent s).1 := by
  unfold State.aQueryBody
  split <;> exact .refl s

theorem State.sMapBody_sameTables (table : List Word) : s.SameTables (State.sMapBody table s).1 := by
  unfold State.sMapBody
  dsimp only
  split
  · exact .refl s
  · split
    · exact .refl s
    · exact s.setStore_sameTables _

theorem State.sAttrBody_sameTables (segment setting : Word) : s.SameTables (State.sAttrBody segment setting s).1 := by
  unfold State.sAttrBody
  split
  · unfold State.setAttr
    dsimp only
    split
    · exact (s.setStore_sameTables _).trans (State.setTreatment_sameTables _ _)
    · exact s.setStore_sameTables _
  · exact .refl s

theorem State.clipDefineBody_sameTables (clip segment start length : Word) :
    s.SameTables (State.clipDefineBody clip segment start length s).1 := by
  unfold State.clipDefineBody
  split
  · exact s.setStore_sameTables _
  · split
    · exact .refl s
    · exact s.setStore_sameTables _
  · exact .refl s

theorem State.progDefineBody_sameTables (programme enable : Word) (clips : List Word) :
    s.SameTables (State.progDefineBody programme enable clips s).1 := by
  unfold State.progDefineBody
  split
  · exact s.setTreatment_sameTables _
  · exact .refl s

theorem State.speechDefineBody_sameTables (entries : List Word) :
    s.SameTables (State.speechDefineBody entries s).1 := by
  unfold State.speechDefineBody
  split
  · exact s.setTreatment_sameTables _
  · exact .refl s

/-! ### The port, the load engine and the time base -/

theorem execReqaddrWrite_sameTables (address : Word) : LeadsTo s.SameTables (execReqaddrWrite address s) := by
  unfold execReqaddrWrite
  dsimp only
  split
  · split
    · exact .next (s.setPort_sameTables _)
    · exact .next ((s.setPort_sameTables _).trans (State.toReply_sameTables _ _))
  · exact .next (s.setPort_sameTables _)

theorem execFetchRefused_sameTables (word0 : Word) (rest : List Word) :
    LeadsTo s.SameTables (execFetchRefused word0 rest s) := by
  unfold execFetchRefused
  split
  · split
    · exact .next (s.toReply_sameTables _)
    · exact .next (.refl s)
  · exact .next (.refl s)

theorem execFetchBusFault_sameTables (index : Nat) (word0 : Word) :
    LeadsTo s.SameTables (execFetchBusFault index word0 s) := by
  unfold execFetchBusFault
  split
  · split
    · exact .next (s.toReply_sameTables _)
    · split
      · exact .next (s.toReply_sameTables _)
      · exact .next (.refl s)
  · exact .next (.refl s)

theorem execSLoad_sameTables (tag : Tag) (segment offset count source : Word) :
    LeadsTo s.SameTables (execSLoad tag segment offset count source s) := by
  unfold execSLoad fetched
  dsimp only
  split
  case isFalse => exact .next (.refl s)
  case isTrue =>
  split
  case h_1 => exact .next (s.toReply_sameTables _)
  case h_2 =>
  split
  case h_1 => exact .next (s.toReply_sameTables _)
  case h_2 =>
  split
  · exact .next (s.toReply_sameTables _)
  · exact .next ((s.setStore_sameTables _).trans (State.setPort_sameTables _ _))

theorem State.endLoad_sameTables (a : Answer) (tag : Tag) : s.SameTables (s.endLoad a tag) :=
  (s.setStore_sameTables { s.store with load := none }).trans (State.toReply_sameTables _ (a.reply loadCode tag))

theorem execLoadGroupWrite_sameTables (b0 b1 b2 b3 : Byte) :
    LeadsTo s.SameTables (execLoadGroupWrite b0 b1 b2 b3 s) := by
  unfold execLoadGroupWrite
  split
  · split
    · exact .next ((s.noteLoadRead_sameTables _).trans (State.setStore_sameTables _ _))
    · exact .next (.refl s)
  · exact .next (.refl s)

theorem execLoadComplete_sameTables : LeadsTo s.SameTables (execLoadComplete s) := by
  unfold execLoadComplete
  split
  · split
    · exact .next (s.endLoad_sameTables _ _)
    · exact .next (.refl s)
  · exact .next (.refl s)

theorem execLoadBusFault_sameTables : LeadsTo s.SameTables (execLoadBusFault s) := by
  unfold execLoadBusFault
  split
  · split
    · exact .next ((s.noteLoadRead_sameTables _).trans (State.endLoad_sameTables _ _ _))
    · exact .next (.refl s)
  · exact .next (.refl s)

theorem State.complete_sameTables (cls : ReplyClass) (reason : Reason) : s.SameTables (s.complete cls reason) :=
  s.setPort_sameTables _

theorem execFillComplete_sameTables : LeadsTo s.SameTables (execFillComplete s) := by
  unfold execFillComplete
  split
  · exact .next ((s.setStore_sameTables _).trans (State.setPort_sameTables _ _))
  · exact .next (.refl s)

theorem execReplyComplete_sameTables : LeadsTo s.SameTables (execReplyComplete s) := by
  unfold execReplyComplete
  split
  · exact .next ((s.writeBus_sameTables _).trans (State.complete_sameTables _ _ _))
  · exact .next (.refl s)

theorem execReplyWriteFault_sameTables (written : Nat) : LeadsTo s.SameTables (execReplyWriteFault written s) := by
  unfold execReplyWriteFault
  split
  · exact .next ((s.writeBus_sameTables _).trans (State.complete_sameTables _ _ _))
  · exact .next (.refl s)

theorem execUndecodedWrite_sameTables (offset value : Word) :
    LeadsTo s.SameTables (execUndecodedWrite offset value s) := by
  unfold execUndecodedWrite
  split
  · exact .fault _
  · exact .next (.refl s)

theorem State.settleSecond_sameTables : s.SameTables s.settleSecond := s.setTimeBase_sameTables _

theorem execOscillatorPeriod_sameTables : LeadsTo s.SameTables (execOscillatorPeriod s) := by
  unfold execOscillatorPeriod
  split
  · exact .next (s.settleSecond_sameTables.trans (State.setTimeBase_sameTables _ _))
  · exact .next (.refl s)

theorem execSecondBoundary_sameTables : LeadsTo s.SameTables (execSecondBoundary s) := by
  unfold execSecondBoundary
  split
  · exact .next (s.setTimeBase_sameTables _)
  · exact .next (.refl s)

theorem execHoldoverEntry_sameTables : LeadsTo s.SameTables (execHoldoverEntry s) := by
  unfold execHoldoverEntry
  split
  · exact .next ((s.settleSecond_sameTables.trans (State.setTimeBase_sameTables _ _)).trans
      (State.setPort_sameTables _ _))
  · exact .next (.refl s)

theorem execRunTimeout_sameTables : LeadsTo s.SameTables (execRunTimeout s) := by
  unfold execRunTimeout
  split
  · exact .next (s.setTimeBase_sameTables _)
  · exact .next (.refl s)

/-- The commands that touch none of the tables leave them the same. -/
theorem exec_sameTables {c : Instr} (spares : c.sparesTables = true) : LeadsTo s.SameTables (exec c s) := by
  cases c
  case setup => exact takeRequest_sameTables s (s.setupBody_sameTables _ _ _ _)
  case qQuery => exact takeRequest_sameTables s (s.qQueryBody_sameTables _)
  case qList => exact takeRequest_sameTables s (s.qListBody_sameTables _ _ _ _)
  case cQuery => exact takeRequest_sameTables s (s.cQueryBody_sameTables _)
  case aQuery => exact takeRequest_sameTables s (s.aQueryBody_sameTables _)
  case sMap => exact takeRequest_sameTables s (s.sMapBody_sameTables _)
  case sAttr => exact takeRequest_sameTables s (s.sAttrBody_sameTables _ _)
  case clipDefine => exact takeRequest_sameTables s (s.clipDefineBody_sameTables _ _ _ _)
  case progDefine => exact takeRequest_sameTables s (s.progDefineBody_sameTables _ _ _)
  case speechDefine => exact takeRequest_sameTables s (s.speechDefineBody_sameTables _)
  case sLoad => exact execSLoad_sameTables s _ _ _ _ _
  case reqaddrWrite => exact execReqaddrWrite_sameTables s _
  case fetchRefused => exact execFetchRefused_sameTables s _ _
  case fetchBusFault => exact execFetchBusFault_sameTables s _ _
  case loadGroupWrite => exact execLoadGroupWrite_sameTables s _ _ _ _
  case loadComplete => exact execLoadComplete_sameTables s
  case loadBusFault => exact execLoadBusFault_sameTables s
  case fillComplete => exact execFillComplete_sameTables s
  case replyComplete => exact execReplyComplete_sameTables s
  case oscillatorPeriod => exact execOscillatorPeriod_sameTables s
  case secondBoundary => exact execSecondBoundary_sameTables s
  case holdoverEntry => exact execHoldoverEntry_sameTables s
  case runTimeout => exact execRunTimeout_sameTables s
  case replyWriteFault => exact execReplyWriteFault_sameTables s _
  case causeClear => exact .next (s.setPort_sameTables _)
  case undecodedWrite offset value => exact execUndecodedWrite_sameTables s offset value
  all_goals exact nomatch spares

end
end Sys2Proof.Machine
end

section
/-! PROOFS. O57: every command leaves no waiting call to a READY agent (R70). -/

namespace Sys2Proof.Machine

theorem LeadsTo.mono {P P' : State → Prop} {r : Result} (h : LeadsTo P r) (imp : ∀ t, P t → P' t) : LeadsTo P' r :=
  fun t run => imp t (h t run)

section
variable {A : List AgentId} {Q : List QueueId} {s t : State}

theorem State.SameTables.eases (h : s.SameTables t) : s.Eases A Q t :=
  State.eases_of_tables h.queues h.agents h.readyList

theorem State.drain_eases (s : State) : s.Eases A Q s.drain := s.drain_only.eases

theorem State.toReply_eases (s : State) (r : Reply) : s.Eases A Q (s.toReply r) := (s.toReply_sameTables r).eases

/-! ### Frames and announcements -/

theorem State.endScript_eases (s : State) (p : PoolId) : s.Eases A Q (s.endScript p) := by
  have freed : s.Eases A Q (s.setPool p .idle) := State.eases_of_tables rfl rfl rfl
  unfold State.endScript
  dsimp only
  split
  · exact freed.trans (State.resumeMusic_only _ _).eases
  · exact freed

theorem State.endScripts_eases (l : List PoolId) (s : State) : s.Eases A Q (l.foldl State.endScript s) := by
  induction l generalizing s with
  | nil => exact .refl s
  | cons p l ih => exact (s.endScript_eases p).trans (ih _)

theorem State.sendFrame_eases (s : State) : s.Eases A Q s.sendFrame := by
  have sent : ∀ v, s.Eases A Q ((s.setFrame s.samples (s.framesSent + 1)).setTreatment v) := fun _ =>
    State.eases_of_tables rfl rfl rfl
  unfold State.sendFrame
  dsimp only
  split
  · exact sent _
  · exact ((sent _).trans (State.endScripts_eases _ _)).trans (State.drain_eases _)

theorem State.enterLocked_eases (s : State) (position : Nat) : s.Eases A Q (s.enterLocked position) := by
  have sent : s.Eases A Q s.settleSecond.sendFrame := s.settleSecond_sameTables.eases.trans (State.sendFrame_eases _)
  unfold State.enterLocked
  dsimp only
  generalize s.settleSecond.sendFrame = u at sent
  exact sent.trans ((u.setTimeBase_sameTables _).trans (State.setPort_sameTables _ _)).eases

theorem State.announce_eases (s : State) (k : CallId) (due : Nat) : s.Eases A Q (s.announce k due) := by
  have skipped : s.Eases A Q (s.skipAnnouncement k due) := s.setCall_eases k _
  unfold State.announce
  dsimp only
  split
  · split
    · exact (s.takePlayer_only k _ _ _).eases.trans (State.drain_eases _)
    · exact skipped
  · exact skipped

theorem execFrameSync_eases (s : State) (position : Nat) : LeadsTo (s.Eases A Q) (execFrameSync position s) := by
  have sent : s.Eases A Q s.settleSecond.sendFrame := s.settleSecond_sameTables.eases.trans (State.sendFrame_eases _)
  unfold execFrameSync
  dsimp only
  split
  · generalize s.settleSecond.sendFrame = u at sent
    exact .next (sent.trans (State.setTimeBase_sameTables _ _).eases)
  · exact .next (.refl s)
  · exact .next (.refl s)

theorem execHoldoverFrameSync_eases (s : State) (position : Nat) :
    LeadsTo (s.Eases A Q) (execHoldoverFrameSync position s) := by
  have counted : ∀ b, s.Eases A Q (s.setTimeBase b) := fun _ => State.eases_of_tables rfl rfl rfl
  unfold execHoldoverFrameSync
  dsimp only
  split
  case h_2 => exact .next (.refl s)
  case h_1 =>
  split
  case h_2 => exact .next (counted _)
  case h_1 =>
  split
  case isFalse => exact .next (counted _)
  case isTrue =>
  split
  · exact .next (s.enterLocked_eases position)
  · exact .next (counted _)

theorem execTakenIndexWrite_eases (s : State) (value : Word) : LeadsTo (s.Eases A Q) (execTakenIndexWrite value s) := by
  have indexed : ∀ n, s.Eases A Q (s.setNotices n) := fun _ => State.eases_of_tables rfl rfl rfl
  unfold execTakenIndexWrite
  dsimp only
  split
  · refine .next ?_
    split
    · exact (indexed _).trans (State.drain_eases _)
    · exact indexed _
  · exact .next (.refl s)

theorem execAnnouncementDue_eases (s : State) (slot : CallId) : LeadsTo (s.Eases A Q) (execAnnouncementDue slot s) := by
  unfold execAnnouncementDue
  split
  case h_2 => exact .next (.refl s)
  case h_1 d _ =>
  split
  · exact .next (s.announce_eases slot d.due)
  · exact .next (.refl s)

/-! ### The bodies of the requests -/

theorem State.qCountersBody_eases (s : State) (queue clear : Word) :
    s.Eases A Q (State.qCountersBody queue clear s).1 := by
  unfold State.qCountersBody
  split
  case h_1 => exact .refl s
  case h_2 =>
  split
  case isFalse => exact .refl s
  case isTrue =>
  dsimp only
  split
  · exact State.setQueue_eases fun _ => ⟨rfl, id, id⟩
  · exact .refl s

theorem State.cAnswerBody_eases (s : State) (handle agent : Word) :
    s.Eases A Q (State.cAnswerBody handle agent s).1 := by
  unfold State.cAnswerBody
  split
  case h_1 => exact .refl s
  case h_2 k _ =>
  split
  case h_1 => exact .refl s
  case h_2 a _ =>
  split
  · exact s.answer_eases k a
  · exact .refl s

theorem State.aCountersBody_eases (s : State) (agent clear : Word) :
    s.Eases A Q (State.aCountersBody agent clear s).1 := by
  unfold State.aCountersBody
  split
  case h_1 => exact .refl s
  case h_2 =>
  dsimp only
  split
  · exact State.setAgent_eases fun _ => .of_same rfl rfl
  · exact .refl s

theorem State.wExtendBody_eases (s : State) (agent seconds : Word) :
    s.Eases A Q (State.wExtendBody agent seconds s).1 := by
  unfold State.wExtendBody
  split
  case h_1 => exact .refl s
  case h_2 =>
  dsimp only
  split
  · exact State.setAgent_eases fun _ => .of_same rfl rfl
  · exact .refl s

namespace State.NoneLeftBut

theorem drain (h : s.NoneLeftBut A Q) : s.drain.NoneLeftBut A Q := h.eases s.drain_eases

theorem qDefineBody (h : s.NoneLeftBut A Q) (p : QDefineWords) : (State.qDefineBody p s).1.NoneLeftBut A Q := by
  unfold State.qDefineBody
  split
  case h_1 => exact h
  case h_2 q _ =>
  split
  case h_1 => exact h
  case h_2 d _ => exact (h.define q d).drain

theorem qModeBody (h : s.NoneLeftBut A Q) (queue mode : Word) : (State.qModeBody queue mode s).1.NoneLeftBut A Q := by
  unfold State.qModeBody
  split
  case h_2 => exact h
  case h_1 q m _ _ =>
  split
  · exact (h.changeMode q m).drain
  · exact h

theorem cArriveBody (h : s.NoneLeftBut A Q) (callerTag queue cls : Word) :
    (State.cArriveBody callerTag queue cls s).1.NoneLeftBut A Q := by
  unfold State.cArriveBody
  split
  case h_1 => exact h
  case h_2 q _ =>
  split
  case isTrue => exact h
  case isFalse =>
  split
  case h_1 => exact h
  case h_2 k _ =>
  have walked := h.eases (s.walk_eases [] q)
  dsimp only
  generalize s.walk [] q = r at walked
  split
  case h_1 => exact walked
  case h_2 accepting _ => exact (walked.arrive k accepting callerTag (classOf cls)).drain

theorem cEndBody (h : s.NoneLeftBut A Q) (handle : Word) : (State.cEndBody handle s).1.NoneLeftBut A Q := by
  unfold State.cEndBody
  split
  case h_1 => exact h
  case h_2 k _ =>
  have abandoned := (h.eases (s.countAbandoned_eases k)).eases (State.freeCall_eases _ k)
  dsimp only
  split
  case h_1 => exact h
  case h_2 => exact abandoned
  case h_3 =>
    refine State.NoneLeftBut.drain ?_
    split
    case h_1 a _ => exact abandoned.returnAgent a _
    case h_2 => exact abandoned
  case h_4 =>
    refine State.NoneLeftBut.drain ?_
    split
    case h_1 a _ =>
      exact ((h.eases (s.enterWrap_eases a _ _)).eases (State.freeCall_eases _ k)).endWrapAtEntry a _
    case h_2 => exact h.eases (s.freeCall_eases k)

theorem cMoveBody (h : s.NoneLeftBut A Q) (handle queue : Word) :
    (State.cMoveBody handle queue s).1.NoneLeftBut A Q := by
  unfold State.cMoveBody
  split
  case h_1 => exact h
  case h_2 k _ =>
  split
  case h_1 => exact h
  case h_2 q _ =>
  split
  case isTrue => exact h
  case isFalse =>
  split
  case isTrue => exact h
  case isFalse =>
  split
  case isTrue => exact h
  case isFalse =>
  generalize (if (s.call k).state = .QUEUED then [(s.call k).queue] else []) = visited
  have walked := h.eases (s.walk_eases visited q)
  dsimp only
  generalize s.walk visited q = r at walked
  split
  case h_1 => exact walked
  case h_2 accepting _ => exact (walked.moveTo k accepting).drain

theorem cClassBody (h : s.NoneLeftBut A Q) (handle cls : Word) :
    (State.cClassBody handle cls s).1.NoneLeftBut A Q := by
  unfold State.cClassBody
  split
  case h_1 => exact h
  case h_2 k _ => exact (h.reclass k (classOf cls)).drain

theorem aLoginBody (h : s.NoneLeftBut A Q) (agent station initial reason : Word) (skills : List Word) :
    (State.aLoginBody agent station initial reason skills s).1.NoneLeftBut A Q := by
  unfold State.aLoginBody
  split
  case h_2 => exact h
  case h_1 =>
  split
  case isTrue => exact h
  case isFalse =>
  split
  case isTrue => exact h
  case isFalse =>
  split
  · exact h
  · exact (h.login _ _ _ _).drain

theorem aLogoutBody (h : s.NoneLeftBut A Q) (agent : Word) : (State.aLogoutBody agent s).1.NoneLeftBut A Q := by
  unfold State.aLogoutBody
  split
  case h_1 => exact h
  case h_2 =>
  split
  case h_1 done => exact h.logout done
  case h_2 => exact h

theorem aSetBody (h : s.NoneLeftBut A Q) (agent target reason expected : Word) :
    (State.aSetBody agent target reason expected s).1.NoneLeftBut A Q := by
  unfold State.aSetBody
  split
  case h_1 => exact h
  case h_2 =>
  dsimp only
  split
  case h_1 => exact h
  case h_2 =>
  split
  case isTrue => exact h
  case isFalse =>
  split
  case h_1 =>
    split
    case h_1 done => exact (h.setReady done).drain
    case h_2 => exact h
  case h_2 =>
    split
    case h_1 done => exact h.setAway done
    case h_2 => exact h

theorem aSkillsBody (h : s.NoneLeftBut [] Q) (agent : Word) (skills : List Word) :
    (State.aSkillsBody agent skills s).1.NoneLeftBut [] Q := by
  unfold State.aSkillsBody
  split
  · exact (h.reskill List.not_mem_nil _).drain
  · exact h

theorem wEndBody (h : s.NoneLeftBut A Q) (agent : Word) : (State.wEndBody agent s).1.NoneLeftBut A Q := by
  unfold State.wEndBody
  split
  case h_1 => exact h
  case h_2 a _ =>
  dsimp only
  split
  · exact (h.endWrap a false).drain
  · exact h

/-! ### The expiries -/

theorem execOfferExpiry (h : s.NoneLeftBut A Q) (slot : CallId) :
    LeadsTo (State.NoneLeftBut A Q) (execOfferExpiry slot s) := by
  unfold Machine.execOfferExpiry
  dsimp only
  split
  case h_2 => exact .next h
  case h_1 a _ =>
  split
  case isTrue =>
    have withdrawn := (h.eases (s.releaseAgent_eases a)).eases (State.withdraw_eases _ slot a)
    exact .next (withdrawn.settleWithdrawn slot).drain
  case isFalse => exact .next h

theorem execOverflowExpiry (h : s.NoneLeftBut A Q) (slot : CallId) :
    LeadsTo (State.NoneLeftBut A Q) (execOverflowExpiry slot s) := by
  unfold Machine.execOverflowExpiry
  split
  case isFalse => exact .next h
  case isTrue =>
  split
  · exact .next (h.overflowAttempt slot).drain
  · exact .next (h.eases (s.setCall_eases slot _))

theorem execWrapExpiry (h : s.NoneLeftBut A Q) (agent : AgentId) :
    LeadsTo (State.NoneLeftBut A Q) (execWrapExpiry agent s) := by
  unfold Machine.execWrapExpiry
  split
  · exact .next (h.endWrap agent true).drain
  · exact .next h

/-! ### Every command -/

theorem leadsTo (h : s.NoneLeftBut A Q) {r : Result} (eases : LeadsTo (s.Eases A Q) r) :
    LeadsTo (State.NoneLeftBut A Q) r := eases.mono fun _ => h.eases

theorem takeRequest (h : s.NoneLeftBut A Q) {b : Block} {body : State → State × Answer}
    (does : (body s).1.NoneLeftBut A Q) : LeadsTo (State.NoneLeftBut A Q) (takeRequest b s body) :=
  .takeRequest (fun u r hu => hu.eases (u.toReply_eases r)) h does

end State.NoneLeftBut

theorem State.poweredOn_noneLeft (s : State) : s.poweredOn.NoneLeftBut [] [] := by
  refine State.noneLeftBut_of_empty (fun q => ?_) fun a => ?_
  · simp [State.poweredOn, State.reset, State.queue, Queue.reset]
  · simp [State.poweredOn, State.reset, State.agent, Agent.reset]

theorem State.resetBlocks_noneLeft (s : State) : s.resetBlocks.NoneLeftBut [] [] := by
  refine State.noneLeftBut_of_empty (fun q => ?_) fun a => ?_
  · simp [State.resetBlocks, State.queue, Queue.reset]
  · simp [State.resetBlocks, State.agent, Agent.reset]

/-- Every command keeps the law: it eases, sweeps the queue a call has entered or that has changed, or selects for the
agent that has entered READY or changed its skills. -/
theorem exec_noneLeft (h : s.NoneLeftBut [] []) (c : Instr) : LeadsTo (State.NoneLeftBut [] []) (exec c s) := by
  have spared : c.sparesTables = true → LeadsTo (State.NoneLeftBut [] []) (exec c s) := fun spares =>
    (exec_sameTables s spares).mono fun _ same => h.eases same.eases
  cases c
  case powerOn => exact .next s.poweredOn_noneLeft
  case portReset => exact .next (State.resetBlocks_noneLeft _)
  case takenIndexWrite value => exact h.leadsTo (execTakenIndexWrite_eases s value)
  case qDefine => exact h.takeRequest (h.qDefineBody _)
  case qMode => exact h.takeRequest (h.qModeBody _ _)
  case qCounters => exact h.takeRequest (h.eases (s.qCountersBody_eases _ _))
  case cArrive => exact h.takeRequest (h.cArriveBody _ _ _)
  case cAnswer => exact h.takeRequest (h.eases (s.cAnswerBody_eases _ _))
  case cEnd => exact h.takeRequest (h.cEndBody _)
  case cMove => exact h.takeRequest (h.cMoveBody _ _)
  case cClass => exact h.takeRequest (h.cClassBody _ _)
  case aLogin => exact h.takeRequest (h.aLoginBody _ _ _ _ _)
  case aLogout => exact h.takeRequest (h.aLogoutBody _)
  case aSet => exact h.takeRequest (h.aSetBody _ _ _ _)
  case aSkills => exact h.takeRequest (h.aSkillsBody _ _)
  case aCounters => exact h.takeRequest (h.eases (s.aCountersBody_eases _ _))
  case wExtend => exact h.takeRequest (h.eases (s.wExtendBody_eases _ _))
  case wEnd => exact h.takeRequest (h.wEndBody _)
  case frameSync position => exact h.leadsTo (execFrameSync_eases s position)
  case holdoverFrameSync position => exact h.leadsTo (execHoldoverFrameSync_eases s position)
  case offerExpiry slot => exact h.execOfferExpiry slot
  case overflowExpiry slot => exact h.execOverflowExpiry slot
  case wrapExpiry agent => exact h.execWrapExpiry agent
  case announcementDue slot => exact h.leadsTo (execAnnouncementDue_eases s slot)
  all_goals exact spared rfl

theorem step_noneLeft (h : s.NoneLeftBut [] []) : LeadsTo (State.NoneLeftBut [] []) (step s) := by
  unfold step
  split
  case h_1 => exact .next h
  case h_2 c rest _ => exact exec_noneLeft (h.eases (State.eases_of_tables (t := s.withPending rest) rfl rfl rfl)) c

end

/-- Settles O57: the law of R70 with the READY agents listed, of which the agreement of the records is asked, is kept by
every step. -/
theorem noCallIsLeftToAReadyAgent : Obligations.NoCallIsLeftToAReadyAgent := fun _ s' agree none run =>
  (step_noneLeft (none.noneLeftBut agree) s' run).noneLeftWaiting

end Sys2Proof.Machine
end

section
/-! PROOFS. O31 and O32: A_COUNTERS and W_EXTEND write the record of their agent and answer from it (R96, R106). -/

namespace Sys2Proof.Machine

/-! ### Requests that write the record of their agent -/

/-- A request that writes its agent's record goes to REPLYING with nothing else changed. -/
theorem State.Taking.setAgent_replies {s : State} (hs : s.Taking) (tag : Tag) (a : AgentId) (g : Agent)
    (cls : ReplyClass) (reason : Reason) (payload : List Word) (code : BitVec 8) :
    (s.setAgent a g).toReply (Answer.reply ⟨cls, reason, 0, payload, []⟩ code tag) =
      { s.replying cls reason code tag payload with agents := s.agents.set a.val g } :=
  State.toReply_present _ _ hs.2

/-- Settles O31: the reply's words are taken from the record as it stood, and a clear writes the counters alone. -/
theorem aCountersReturnsAndClears : Obligations.ACountersReturnsAndClears := by
  intro tag agent clear s hs
  refine ⟨fun range => ?_, ?_⟩
  · obtain ⟨-, -, -, -, -, refused, -⟩ := agentRequests_refuse_range hs tag agent clear 0 0 [] (by decide) range
    exact refused
  · rintro a rfl g cleared
    refine ⟨(hs.takes _ rfl).trans (congrArg _ ?_), rfl⟩
    simp only [State.aCountersBody, idOf_agent a, flagOf]
    by_cases keeps : clear = 0
    · simp only [keeps, bne_self_eq_false, Bool.false_eq_true, if_false, if_true]
      exact s.toReply_replying .DONE .NONE _ 0x35 tag hs.2
    · simp only [bne_iff_ne.mpr keeps, keeps, if_true, if_false]
      exact hs.setAgent_replies tag a cleared .DONE .NONE _ 0x35

/-- The deadline of an extended wrap: the sum held at the limit, and a deadline that does not move is left as it is
(R96). -/
theorem Agent.extended_eq (g : Agent) (seconds now : Nat) (limit : g.wrapLimit ≤ 4294967295) :
    ∃ held, g.extended seconds now = ⟨min (g.wrapDeadline.due + seconds) g.wrapLimit, held⟩ ∧
      (min (g.wrapDeadline.due + seconds) g.wrapLimit = g.wrapDeadline.due → held = g.wrapDeadline.held) := by
  unfold Agent.extended
  dsimp only
  split
  case isTrue same => exact ⟨g.wrapDeadline.held, by rw [same], fun _ => rfl⟩
  case isFalse moves =>
    have below : min (min (g.wrapDeadline.due + seconds) g.wrapLimit) Config.maxU32 = _ :=
      Nat.min_eq_left ((Nat.min_le_right _ _).trans limit)
    exact ⟨decide (Config.maxU32 ≤ now), congrArg (Deadline.mk · _) below, fun same => absurd same moves⟩

/-- A W_EXTEND in WRAP writes the extended deadline and answers from it (R96). -/
theorem State.Taking.wExtend_wrap {s : State} (hs : s.Taking) (tag : Tag) (seconds : Word) {a : AgentId} {d : Deadline}
    (wrap : (s.agent a).state = .WRAP) (extended : (s.agent a).extended seconds.toNat s.now = d) :
    exec (.wExtend tag (word a.val) seconds) s =
      let beyond := decide ((s.agent a).wrapLimit < (s.agent a).wrapDeadline.due + seconds.toNat)
      .next { s.replying (clampClass beyond) (clampReason beyond) 0x38 tag
          [word (s.agent a).wrapStart, word d.due, word (s.agent a).wrapLimit,
            word (d.due - (s.agent a).wrapDeadline.due), word ((s.agent a).wrapLimit - d.due)] with
        agents := s.agents.set a.val { s.agent a with wrapDeadline := d } } := by
  refine (hs.takes _ rfl).trans (congrArg _ ?_)
  simp only [State.wExtendBody, idOf_agent a, if_pos wrap, Answer.clamped_eq, extended]
  exact hs.setAgent_replies tag a _ _ _ _ 0x38

/-- Settles O32: the deadline goes to the sum or to the limit, and PARTIAL says which. -/
theorem wExtendStopsAtTheLimit : Obligations.WExtendStopsAtTheLimit := by
  intro tag agent seconds s hs
  refine ⟨fun range => ?_, ?_⟩
  · obtain ⟨-, -, -, -, -, -, refused, -⟩ :=
      agentRequests_refuse_range hs tag agent seconds 0 0 [] (by decide) range
    exact refused
  · rintro a rfl g
    refine ⟨fun other => ?_, fun wrap _ limit => ?_⟩
    · refine hs.answers rfl ?_
      simp only [State.wExtendBody, idOf_agent a]
      exact if_neg other
    · obtain ⟨held, extended, still⟩ := g.extended_eq seconds.toNat s.now limit
      exact ⟨held, hs.wExtend_wrap tag seconds wrap extended, still⟩

end Sys2Proof.Machine
end

section
/-! PROOFS. O33: the ends of a wrap, by W_END without an AGENT mark and by the expiry of its deadline with it (R97 to R102,
R116). -/

namespace Sys2Proof.Machine

/-! ### The wrap that ends without a mark -/

/-- The hand-over and a pending applied to the agent's record make the end of a wrap, whatever else leaves the queues
(R99 to R101, R116). -/
theorem Agent.Resumes.wrapEnds {n u : State} {a : AgentId} {pend : PendingChange}
    (h : ((n.agent a).wrapped n.now).Resumes n.now (a ∈ u.readyList) pend (u.agent a))
    (queue : ∀ x, u.queue x = { (n.handedOver a).queue x with waiting := (u.queue x).waiting }) :
    n.WrapEnds u a (n.agent a).wrapQueue (n.agent a).wrapTalk (n.now - (n.agent a).wrapStart) pend := by
  simp only [State.handedOver_queue] at queue
  have own := queue (n.agent a).wrapQueue
  rw [if_pos rfl] at own
  have fields := h.fields
  refine ⟨by rw [fields]; rfl, by rw [own]; rfl, ?_, by rw [own]; exact ⟨rfl, rfl⟩, fun r hr => ?_,
    by rw [fields]; exact ⟨rfl, rfl, rfl, rfl, rfl, rfl⟩, by rw [fields]; exact ⟨rfl, rfl⟩, by rw [fields]; rfl,
    h.of_none, fun _ => h.of_away, h.of_logout⟩
  · rw [own, max_comm]
    exact Int.toNat_eq_max _
  · rw [queue r, if_neg (Ne.symm hr)]
    exact ⟨rfl, rfl⟩

/-- Agent `a`'s wrap has ended between two states, and its AGENT mark has not been set (R97, R99 to R102). -/
structure State.WrapLeft (n u : State) (a : AgentId) : Prop where
  rest : u = { n with
    queues := u.queues, calls := u.calls, readyList := u.readyList, agents := u.agents
    notices := { n.notices with backlog := u.notices.backlog } }
  ends : n.WrapEnds u a (n.agent a).wrapQueue (n.agent a).wrapTalk (n.now - (n.agent a).wrapStart) (n.agent a).pending
  mark : (u.agent a).mark = (n.agent a).mark
  unmarked : RecordRef.agent a ∈ u.notices.backlog → RecordRef.agent a ∈ n.notices.backlog
  quiet : (u.agent a).state ≠ .OFFERED → u.notices = n.notices

/-- A pending AWAY or LOGOUT applied: the record is written, and nothing is marked or offered (R101, R102). -/
theorem State.WrapLeft.of_written {n : State} {a : AgentId} {g : Agent}
    (h : ((n.agent a).wrapped n.now).Resumes n.now (a ∈ n.readyList) (n.agent a).pending g) :
    n.WrapLeft ((n.handedOver a).setAgent a g) a := by
  have rest := n.handedOver_rest a
  have own : ((n.handedOver a).setAgent a g).agent a = g := (State.agent_setAgent _ a a g).trans (if_pos rfl)
  have ready : ((n.handedOver a).setAgent a g).readyList = n.readyList := by rw [rest]; rfl
  have notices : ((n.handedOver a).setAgent a g).notices = n.notices := by rw [rest]; rfl
  refine ⟨by rw [rest]; rfl, Agent.Resumes.wrapEnds (by rw [own, ready]; exact h) fun _ => rfl, ?_,
    fun m => notices ▸ m, fun _ => notices⟩
  rw [own, h.fields]
  rfl

/-- No pending: the agent enters READY, and the call selected for it is the one mark set (R75, R101, R102). -/
theorem State.EntersReady.wrapLeft {n u : State} {a : AgentId} (h : (n.handedOver a).EntersReady u a)
    (none : (n.agent a).pending = .NONE) : n.WrapLeft u a := by
  have notices : (n.handedOver a).notices = n.notices := by rw [State.handedOver_rest]
  refine ⟨?_, none ▸ h.wrapEnds, ?_, fun m => notices ▸ h.unmarked a m, fun other => (h.quiet other).trans notices⟩
  · have rest := h.rest
    rw [State.handedOver_rest] at rest
    exact rest
  · rw [h.fields, State.handedOver_agent]
    rfl

/-- The end of a wrap whose AGENT mark is not set (R97, R99 to R102, R116). -/
theorem State.endWrap_left (n : State) (a : AgentId) : n.WrapLeft (n.endWrap a false) a := by
  obtain ⟨t, ht, ends⟩ := n.endWrap_cases a false
  have handed : t = n.handedOver a := ht
  rw [handed] at ends
  cases pend : (n.agent a).pending with
  | NONE =>
    rw [State.endWrap_ready pend, ← n.handedOver_now a]
    exact ((n.handedOver a).enterReady_enters a).wrapLeft pend
  | AWAY r =>
    rw [ends, pend]
    exact .of_written (by rw [pend, State.handedOver_agent]; exact .away r)
  | LOGOUT =>
    rw [ends, pend]
    exact .of_written (by rw [pend, State.handedOver_agent]; exact .logout)

section
variable {s u t : State} {a : AgentId} (h : s.WrapLeft u a)
include h

theorem State.WrapLeft.sameLibrary : s.SameLibrary u := State.sameLibrary_of_rest (by rw [h.rest])

/-- The drain that follows posts nothing but the offer of the call selected (R102, R191). -/
theorem State.WrapLeft.notReported (law : s.NoticeLaw) (closes : u.Closes t) : s.AgentNotReported t a where
  mark marked := h.mark ▸ closes.mark_of marked
  backlog listed := by
    rw [closes.notices] at listed
    exact h.unmarked (u.drain_shrinks.1 listed)
  quiet other := by
    have same : (t.agent a).state = (u.agent a).state := by rw [closes.agent_same a]
    have silent := h.quiet (same ▸ other)
    have still : u.drain = u := law.drain_eq silent (by rw [h.rest])
    rw [closes.notices, closes.bus, still, silent, h.rest]
    exact ⟨rfl, rfl⟩

end

/-! ### The commands -/

section
variable {s : State} {a : AgentId}

/-- A W_END in WRAP answers from the record as it stood and closes with the wrap's end (R97). -/
theorem State.Taking.wEnd_wrap (hs : s.Taking) (tag : Tag) (wrap : (s.agent a).state = .WRAP) :
    ∃ t, exec (.wEnd tag (word a.val)) s = .next t ∧ (s.endWrap a false).Closes t ∧
      t.Replies .DONE .NONE 0x39 tag
        [word (s.agent a).wrapTalk, word (s.now - (s.agent a).wrapStart), (s.agent a).pending.word,
          word (t.agent a).state.code] := by
  obtain ⟨t, ht, closes, replies⟩ := (s.endWrap a false).closes .DONE .NONE
    [word (s.agent a).wrapTalk, word (s.now - (s.agent a).wrapStart), (s.agent a).pending.word,
      word ((s.endWrap a false).agent a).state.code] 0x39 tag (by rw [(s.endWrap_left a).rest]; exact hs.2)
  have state : (t.agent a).state = ((s.endWrap a false).agent a).state := by rw [closes.agent_same a]
  refine ⟨t, (hs.takes _ rfl).trans (congrArg _ ?_), closes, state ▸ replies⟩
  simp only [State.wEndBody, idOf_agent a, if_pos wrap]
  exact ht

theorem State.Taking.wEnd_refused (hs : s.Taking) (tag : Tag) (other : (s.agent a).state ≠ .WRAP) :
    exec (.wEnd tag (word a.val)) s = .next (s.replying .REFUSED .STATE 0x39 tag []) := by
  refine hs.answers rfl ?_
  simp only [State.wEndBody, idOf_agent a, if_neg other]
  rfl

/-- A wrap's deadline has been reached, and it was set before T held (R98, R168). -/
theorem State.wrapExpiry_eq (s : State) (a : AgentId) : exec (.wrapExpiry a) s =
    if (s.agent a).state = .WRAP ∧ (s.agent a).wrapDeadline.due ≤ s.now ∧ (s.agent a).wrapDeadline.held = false then
      .next (s.endWrap a true).drain
    else .next s := by
  have reached : (s.agent a).wrapDeadline.reached s.now = true ↔
      (s.agent a).wrapDeadline.due ≤ s.now ∧ (s.agent a).wrapDeadline.held = false := by
    simp [Deadline.reached, and_comm]
  exact if_congr (and_congr_right' reached) rfl rfl

end

/-- Settles O33: W_END ends the wrap without its mark and the expiry ends it with it; out of their conditions W_END is
refused and the expiry does not happen. -/
theorem wrapsEndOnce : Obligations.WrapsEndOnce := by
  intro tag a s law g w
  refine ⟨fun hs wrap => ?_, fun hs other => hs.wEnd_refused tag other, fun wrap due held => ?_, fun waits => ?_⟩
  · have left := s.endWrap_left a
    obtain ⟨t, ht, closes, replies⟩ := hs.wEnd_wrap tag wrap
    exact ⟨t, ht, left.ends.closed closes, replies, left.notReported law closes,
      closes.treatment.trans (by rw [left.rest]), left.sameLibrary.trans closes.library⟩
  · have done := s.endWrap_done a
    have closes := (s.endWrap a true).drain_closes
    have port : (s.endWrap a true).port = s.port := by rw [done.rest]
    obtain ⟨state, reply⟩ := (s.endWrap a true).drain_port
    refine ⟨_, (s.wrapExpiry_eq a).trans (if_pos ⟨wrap, due, held⟩), done.ends.closed closes,
      closes.treatment.trans (by rw [done.rest]),
      State.SameLibrary.trans (State.sameLibrary_of_rest (by rw [done.rest])) closes.library,
      state.trans (by rw [port]), reply.trans (by rw [port]),
      done.reports.agentReported (by decide) closes ?_ (by rw [done.rest]) done.listed done.marked⟩
    rw [done.rest]
    rfl
  · exact (s.wrapExpiry_eq a).trans (if_neg waits)

end Sys2Proof.Machine
end

section
/-! PROOFS. The ranges of the fields, record by record, with the laws of O52 asked one by one (Tables 1-1, 2-1, 3-1,
5-1, 7-1, 8-1 and 9-2). -/

namespace Sys2Proof.Machine

/-! ### The ranges of one record -/

/-- Which of the six laws are asked of a state. O52 lets each stand alone, so what is known of a record is what the laws
asked say of it. -/
structure RangeLaws where
  params : Prop
  records : Prop
  counters : Prop
  stamps : Prop
  library : Prop
  time : Prop

/-- The twelve counters of a queue within 32 bits (R108). -/
structure QueueCounters.InRange (c : QueueCounters) : Prop where
  entered : c.entered ≤ Config.maxU32
  answered : c.answered ≤ Config.maxU32
  answeredInTarget : c.answeredInTarget ≤ Config.maxU32
  abandoned : c.abandoned ≤ Config.maxU32
  abandonedShort : c.abandonedShort ≤ Config.maxU32
  movedOut : c.movedOut ≤ Config.maxU32
  overflowOut : c.overflowOut ≤ Config.maxU32
  diverted : c.diverted ≤ Config.maxU32
  answerWaitTotal : c.answerWaitTotal ≤ Config.maxU32
  handled : c.handled ≤ Config.maxU32
  talkTotal : c.talkTotal ≤ Config.maxU32
  wrapTotal : c.wrapTotal ≤ Config.maxU32

/-- The five work counters of an agent within 32 bits (R105). -/
structure AgentCounters.InRange (c : AgentCounters) : Prop where
  callsHandled : c.callsHandled ≤ Config.maxU32
  talkSeconds : c.talkSeconds ≤ Config.maxU32
  wrapSeconds : c.wrapSeconds ≤ Config.maxU32
  awaySeconds : c.awaySeconds ≤ Config.maxU32
  ronaCount : c.ronaCount ≤ Config.maxU32

/-- A skill list as R46 takes it. -/
def SkillsInRange (l : List Skill) : Prop :=
  l.length ≤ 8 ∧ (l.map (·.id)).Nodup ∧ ∀ k ∈ l, 1 ≤ k.level ∧ k.level ≤ 9

/-- The record of queue `q`, as far as the laws are asked (Table 1-1, R12, R108). -/
structure Queue.Ranged (G : RangeLaws) (q : QueueId) (r : Queue) : Prop where
  params : G.params → r.params.InRange ∧ r.params.overflowTarget ≠ some q
  counters : G.counters → r.counters.InRange

/-- The record of a call at part time `now` (Table 2-1). -/
structure Call.Ranged (G : RangeLaws) (now : Nat) (c : Call) : Prop where
  joinSeq : G.records → c.joinSeq ≤ Config.maxU32
  cls : G.records → c.cls ≤ 3
  moveCount : G.records → c.moveCount ≤ 4
  channel : G.records → ∀ n, c.channel = some n → n < 48
  arrival : G.stamps → c.arrival ≤ now
  entry : G.stamps → c.entry ≤ now
  savedReadySince : G.stamps → ∀ n, c.savedReadySince = some n → n ≤ now
  talkStart : G.stamps → ∀ n, c.talkStart = some n → n ≤ now
  offerDeadline : G.stamps → ∀ d, c.offerDeadline = some d → d.due ≤ Config.maxU32
  nextAnnouncement : G.stamps → ∀ d, c.nextAnnouncement = some d → d.due ≤ Config.maxU32

/-- The record of an agent at part time `now` (Tables 3-1 and 5-1). -/
structure Agent.Ranged (G : RangeLaws) (now : Nat) (g : Agent) : Prop where
  station : G.records → g.station ≤ 65535
  skills : G.records → SkillsInRange g.skills
  pending : G.records → ∀ r, g.pending = .AWAY r → r.val ≤ 14
  wrap : G.records → g.wrapDeadline.due ≤ g.wrapLimit ∧ g.wrapLimit ≤ Config.maxU32
  counters : G.counters → g.counters.InRange
  readySince : G.stamps → g.readySince ≤ now
  stateEntry : G.stamps → g.stateEntry ≤ now
  wrapStart : G.stamps → g.wrapStart ≤ now
  wrapTalk : G.stamps → g.wrapTalk ≤ now

/-- The clip table, and the boundary table's share of R127 that keeps every segment within the store. -/
structure ClipStore.InRange (st : ClipStore) : Prop where
  clips : ∀ c e, st.clip c = some e → e.InRange
  bounds : ∀ i : SegmentId, st.bounds[i.val] ≤ 4096

/-- A pool player (Table 8-1). -/
structure PoolPlayer.InRange (p : PoolPlayer) : Prop where
  player : p.player.InRange
  script : p.script.length ≤ 8
  plays : p.state = .PLAYING → p.script ≠ []

/-- The programmes and the players (R146, Table 8-1). -/
structure Treatment.InRange (u : Treatment) : Prop where
  programmes : ∀ p : ProgrammeId, u.programmes[p.val].clips.length ≤ 8
  broadcast : ∀ p : ProgrammeId, u.broadcast[p.val].InRange
  pool : ∀ p : PoolId, u.pool[p.val].InRange

/-- The time base (Table 9-2). -/
structure TimeBase.InRange (b : TimeBase) : Prop where
  time : b.time ≤ Config.maxU32
  periods : b.periodCount < 8016
  run : ∀ n, b.run = some n → n ≤ 15
  sync : b.highway = .LOCKED ∨ b.run ≠ none → b.lastSync ≠ none

/-! ### The ranges of a state -/

/-- Every record is in range as far as the laws are asked. -/
structure State.Ranged (G : RangeLaws) (s : State) : Prop where
  joinSeq : G.records → s.joinSeq ≤ Config.maxU32
  queue : ∀ q, (s.queue q).Ranged G q
  call : ∀ k, (s.call k).Ranged G s.now
  agent : ∀ a, (s.agent a).Ranged G s.now
  store : G.library → s.store.InRange
  treatment : G.library → s.treatment.InRange
  time : G.time → s.timeBase.InRange

/-- The laws that hold of a state, with the premises O52 gives two of them. -/
def State.laws (s : State) : RangeLaws where
  params := s.ParamsInRange
  records := s.RecordsInRange
  counters := s.RecordsAgree ∧ s.CountersInRange
  stamps := s.StampsInRange
  library := s.StoreLaw ∧ s.LibraryInRange
  time := s.TimeInRange

/-- A state is in range as far as its own laws hold. -/
theorem State.ranged_laws (s : State) : s.Ranged s.laws where
  joinSeq h := h.joinSeq
  queue q :=
    { params := fun h => h q
      counters := fun ⟨_, h⟩ => by
        obtain ⟨entered, answered, inTarget, abandoned, short, movedOut, overflowOut, diverted⟩ := h.calls q
        obtain ⟨waits, handled, talk, wrap⟩ := h.work q
        exact ⟨entered, answered, inTarget, abandoned, short, movedOut, overflowOut, diverted, waits, handled, talk,
          wrap⟩ }
  call k :=
    { joinSeq := fun h => h.callSeq k
      cls := fun h => h.cls k
      moveCount := fun h => h.moveCount k
      channel := fun h => h.channel k
      arrival := fun h => (h.calls k).1
      entry := fun h => (h.calls k).2.1
      savedReadySince := fun h => (h.calls k).2.2.1
      talkStart := fun h => (h.calls k).2.2.2
      offerDeadline := fun h d e => h.deadlines k d (.inl e)
      nextAnnouncement := fun h d e => h.deadlines k d (.inr e) }
  agent a :=
    { station := fun h => h.station a
      skills := fun h => h.skills a
      pending := fun h => h.pending a
      wrap := fun h => h.wrap a
      counters := fun ⟨_, h⟩ => by
        obtain ⟨calls, talk, wrap, away, rona⟩ := h.agents a
        exact ⟨calls, talk, wrap, away, rona⟩
      readySince := fun h => (h.agents a).1
      stateEntry := fun h => (h.agents a).2.1
      wrapStart := fun h => (h.agents a).2.2.1
      wrapTalk := fun h => (h.agents a).2.2.2 }
  store h := ⟨h.2.clips, h.1.bounded⟩
  treatment h := ⟨h.2.programmes, h.2.broadcast, fun p =>
    ⟨(h.2.pool p).1, (h.2.pool p).2.1, (h.2.pool p).2.2⟩⟩
  time h := ⟨h.time, h.periods, h.run, h.sync⟩

section
variable {G : RangeLaws} {s t : State} (h : s.Ranged G)
include h

theorem State.Ranged.paramsInRange (asked : G.params) : s.ParamsInRange := fun q => (h.queue q).params asked

theorem State.Ranged.recordsInRange (asked : G.records) : s.RecordsInRange where
  joinSeq := h.joinSeq asked
  callSeq k := (h.call k).joinSeq asked
  cls k := (h.call k).cls asked
  moveCount k := (h.call k).moveCount asked
  channel k := (h.call k).channel asked
  station a := (h.agent a).station asked
  skills a := (h.agent a).skills asked
  pending a := (h.agent a).pending asked
  wrap a := (h.agent a).wrap asked

theorem State.Ranged.countersInRange (asked : G.counters) : s.CountersInRange where
  calls q := by
    obtain ⟨entered, answered, inTarget, abandoned, short, movedOut, overflowOut, diverted, -⟩ :=
      (h.queue q).counters asked
    exact ⟨entered, answered, inTarget, abandoned, short, movedOut, overflowOut, diverted⟩
  work q := by
    obtain ⟨-, -, -, -, -, -, -, -, waits, handled, talk, wrap⟩ := (h.queue q).counters asked
    exact ⟨waits, handled, talk, wrap⟩
  agents a := by
    obtain ⟨calls, talk, wrap, away, rona⟩ := (h.agent a).counters asked
    exact ⟨calls, talk, wrap, away, rona⟩

theorem State.Ranged.stampsInRange (asked : G.stamps) : s.StampsInRange where
  calls k := ⟨(h.call k).arrival asked, (h.call k).entry asked, (h.call k).savedReadySince asked,
    (h.call k).talkStart asked⟩
  deadlines k d e := e.elim ((h.call k).offerDeadline asked d) ((h.call k).nextAnnouncement asked d)
  agents a := ⟨(h.agent a).readySince asked, (h.agent a).stateEntry asked, (h.agent a).wrapStart asked,
    (h.agent a).wrapTalk asked⟩

theorem State.Ranged.libraryInRange (asked : G.library) : s.LibraryInRange where
  clips := (h.store asked).clips
  programmes := (h.treatment asked).programmes
  broadcast := (h.treatment asked).broadcast
  pool p := ⟨((h.treatment asked).pool p).player, ((h.treatment asked).pool p).script,
    ((h.treatment asked).pool p).plays⟩

theorem State.Ranged.timeInRange (asked : G.time) : s.TimeInRange :=
  ⟨(h.time asked).time, (h.time asked).periods, (h.time asked).run, (h.time asked).sync⟩

end

/-! ### Counters and deadlines -/

theorem satAdd_le (a b : Nat) : satAdd a b ≤ Config.maxU32 := Nat.min_le_right _ _

theorem deadlineAt_due_le (t due : Nat) : (deadlineAt t due).due ≤ Config.maxU32 := Nat.min_le_right _ _

theorem State.scheduled_due_le (s : State) (q : QueueId) {d : Deadline} (h : s.scheduled q = some d) :
    d.due ≤ Config.maxU32 := by
  unfold State.scheduled at h
  split at h
  case isTrue => exact Option.some.inj h ▸ deadlineAt_due_le _ _
  case isFalse => exact nomatch h

namespace QueueCounters.InRange

variable {c : QueueCounters} (h : c.InRange)
include h

theorem addEntered : c.addEntered.InRange := { h with entered := satAdd_le _ _ }

theorem addDiverted : c.addDiverted.InRange := { h with diverted := satAdd_le _ _ }

theorem addAbandoned (short : Bool) : (c.addAbandoned short).InRange where
  __ := h
  abandoned := satAdd_le _ _
  abandonedShort := by
    unfold QueueCounters.addAbandoned
    cases short
    · exact h.abandonedShort
    · exact satAdd_le _ _

theorem addMovedOut (overflow : Bool) : (c.addMovedOut overflow).InRange where
  __ := h
  movedOut := satAdd_le _ _
  overflowOut := by
    unfold QueueCounters.addMovedOut
    cases overflow
    · exact h.overflowOut
    · exact satAdd_le _ _

theorem addAnswered (inTarget : Bool) (wait : Nat) : (c.addAnswered inTarget wait).InRange where
  __ := h
  answered := satAdd_le _ _
  answeredInTarget := by
    unfold QueueCounters.addAnswered
    cases inTarget
    · exact h.answeredInTarget
    · exact satAdd_le _ _
  answerWaitTotal := by
    unfold QueueCounters.addAnswered
    cases inTarget
    · exact h.answerWaitTotal
    · exact satAdd_le _ _

theorem addHandled (t w : Nat) : (c.addHandled t w).InRange :=
  { h with handled := satAdd_le _ _, talkTotal := satAdd_le _ _, wrapTotal := satAdd_le _ _ }

end QueueCounters.InRange

theorem AgentCounters.InRange.addWrap {c : AgentCounters} (h : c.InRange) (t w : Nat) : (c.addWrap t w).InRange :=
  { h with callsHandled := satAdd_le _ _, talkSeconds := satAdd_le _ _, wrapSeconds := satAdd_le _ _ }

/-! ### One record written -/

section
variable {G : RangeLaws} {s t : State}

theorem Call.Ranged.later {now later : Nat} {c : Call} (h : c.Ranged G now) (le : now ≤ later) :
    c.Ranged G later where
  __ := h
  arrival asked := (h.arrival asked).trans le
  entry asked := (h.entry asked).trans le
  savedReadySince asked n e := (h.savedReadySince asked n e).trans le
  talkStart asked n e := (h.talkStart asked n e).trans le

theorem Agent.Ranged.later {now later : Nat} {g : Agent} (h : g.Ranged G now) (le : now ≤ later) :
    g.Ranged G later where
  __ := h
  readySince asked := (h.readySince asked).trans le
  stateEntry asked := (h.stateEntry asked).trans le
  wrapStart asked := (h.wrapStart asked).trans le
  wrapTalk asked := (h.wrapTalk asked).trans le

/-- A FREE slot is in range (Table 2-2). -/
theorem Call.free_ranged (gen : Generation) (now : Nat) : (Call.free gen).Ranged G now where
  joinSeq _ := Nat.zero_le _
  cls _ := Nat.zero_le _
  moveCount _ := Nat.zero_le _
  channel _ := nofun
  arrival _ := Nat.zero_le _
  entry _ := Nat.zero_le _
  savedReadySince _ := nofun
  talkStart _ := nofun
  offerDeadline _ := nofun
  nextAnnouncement _ := nofun

/-- An agent's record after a reset taken at T is in range (Table 3-2). -/
theorem Agent.reset_ranged (now : Nat) : (Agent.reset now).Ranged G now where
  station _ := Nat.zero_le _
  skills _ := ⟨Nat.zero_le _, List.nodup_nil, nofun⟩
  pending _ := nofun
  wrap _ := ⟨le_rfl, Nat.zero_le _⟩
  counters _ := ⟨Nat.zero_le _, Nat.zero_le _, Nat.zero_le _, Nat.zero_le _, Nat.zero_le _⟩
  readySince _ := Nat.zero_le _
  stateEntry _ := le_rfl
  wrapStart _ := Nat.zero_le _
  wrapTalk _ := Nat.zero_le _

theorem QueueCounters.zero_inRange : QueueCounters.zero.InRange := by
  constructor <;> exact Nat.zero_le _

/-- A queue's record after a reset is in range (Table 1-2). -/
theorem Queue.reset_ranged (q : QueueId) : Queue.reset.Ranged G q where
  params _ := ⟨by constructor <;> decide, nofun⟩
  counters _ := QueueCounters.zero_inRange

namespace State.Ranged

/-- The laws look at the queues, calls and agents, the join sequence, the store, the treatment unit and the time
base. -/
theorem same (h : s.Ranged G) (e : t = { t with
    queues := s.queues, joinSeq := s.joinSeq, calls := s.calls, agents := s.agents, store := s.store
    treatment := s.treatment, timeBase := s.timeBase }) : t.Ranged G := by
  rw [e]
  exact { h with }

theorem setQueue (h : s.Ranged G) {q : QueueId} {r : Queue} (hr : r.Ranged G q) : (s.setQueue q r).Ranged G where
  __ := h
  queue x := by
    rw [State.queue_setQueue]
    split
    case isTrue e => exact e ▸ hr
    case isFalse => exact h.queue x

theorem setCall (h : s.Ranged G) {k : CallId} {c : Call} (hc : c.Ranged G s.now) : (s.setCall k c).Ranged G where
  __ := h
  call j := by
    rw [State.call_setCall]
    split
    · exact hc
    · exact h.call j

theorem setAgent (h : s.Ranged G) {a : AgentId} {g : Agent} (hg : g.Ranged G s.now) : (s.setAgent a g).Ranged G where
  __ := h
  agent b := by
    rw [State.agent_setAgent]
    split
    · exact hg
    · exact h.agent b

theorem setPool (h : s.Ranged G) {p : PoolId} {r : PoolPlayer} (hr : G.library → r.InRange) :
    (s.setPool p r).Ranged G where
  __ := h
  treatment asked :=
    { h.treatment asked with
      pool := fun x => by
        have read : (s.setPool p r).pool x = if p = x then r else s.pool x := State.pool_setPool s p x r
        refine (?_ : ((s.setPool p r).pool x).InRange)
        rw [read]
        split
        · exact hr asked
        · exact (h.treatment asked).pool x }

theorem setWaiting (h : s.Ranged G) {q : QueueId} {l : List CallId} : (s.setWaiting q l).Ranged G :=
  h.setQueue ⟨(h.queue q).params, (h.queue q).counters⟩

theorem count (h : s.Ranged G) {q : QueueId} {f : QueueCounters → QueueCounters}
    (keeps : ∀ c, c.InRange → (f c).InRange) : (s.count q f).Ranged G :=
  h.setQueue ⟨(h.queue q).params, fun asked => keeps _ ((h.queue q).counters asked)⟩

theorem setReadyList (h : s.Ranged G) {l : List AgentId} : (s.setReadyList l).Ranged G := h.same rfl

theorem setPort (h : s.Ranged G) {p : Port} : (s.setPort p).Ranged G := h.same rfl

theorem setNotices (h : s.Ranged G) {n : NoticeUnit} : (s.setNotices n).Ranged G := h.same rfl

theorem setStore (h : s.Ranged G) {st : ClipStore} (hst : G.library → st.InRange) : (s.setStore st).Ranged G :=
  { h with store := hst }

theorem setTreatment (h : s.Ranged G) {u : Treatment} (hu : G.library → u.InRange) : (s.setTreatment u).Ranged G :=
  { h with treatment := hu }

/-- T never falls (R168), so the stamps stay behind it. -/
theorem setTimeBase (h : s.Ranged G) {b : TimeBase} (later : s.timeBase.time ≤ b.time) (hb : G.time → b.InRange) :
    (s.setTimeBase b).Ranged G :=
  { h with call := fun k => (h.call k).later later, agent := fun a => (h.agent a).later later, time := hb }

end State.Ranged
end
end Sys2Proof.Machine
end

section
/-! PROOFS. The players stay in range at clip starts, at frames and when they are silenced (R132, R144 to R149). -/

namespace Sys2Proof.Machine

/-! ### Clip starts -/

/-- A player with no clip in play, at a place of its list. -/
theorem Player.idleAt_inRange {i : Nat} (place : i ≤ 7) : (Player.idleAt i).InRange where
  place := place
  idle _ := rfl
  captured := nofun
  segment := nofun
  held := nofun

theorem PoolPlayer.idle_inRange : PoolPlayer.idle.InRange where
  player := Player.idleAt_inRange (Nat.zero_le _)
  script := Nat.zero_le _
  plays := nofun

/-- A segment's boundaries are within 4096 blocks of 1,024 bytes, so the segment lies within the store (R127). -/
theorem ClipStore.InRange.segment {st : ClipStore} (h : st.InRange) (k : SegmentId) :
    (st.base k) % 1024 = 0 ∧ (st.size k) % 1024 = 0 ∧ st.base k + st.size k ≤ 4194304 := by
  unfold ClipStore.base ClipStore.size
  rw [ClipStore.base_eq]
  have upper := h.bounds k
  have lower : st.boundaryBefore k ≤ 4096 := by
    unfold ClipStore.boundaryBefore
    split
    · exact Nat.zero_le _
    · exact h.bounds (k - 1)
  omega

/-- A clip start: position 0 of a defined clip, its segment captured and no group held (R144). -/
theorem ClipStore.InRange.startClip {st : ClipStore} (h : st.InRange) {i : Nat} {e : ClipEntry} (place : i ≤ 7)
    (entry : e.InRange) : (st.startClip i e).InRange where
  place := place
  idle := nofun
  captured c captured := by
    obtain rfl := Option.some.inj captured
    exact ⟨entry.start, entry.length.1, entry.length.2, entry.length.1⟩
  segment c captured := by
    obtain rfl := Option.some.inj captured
    exact h.segment e.segment
  held := nofun

/-- The place a search finds is one of the list, and its clip is defined (R147, R149). -/
theorem ClipStore.firstDefined_spec {st : ClipStore} {clips : List ClipId} {places : List Nat} {i : Nat}
    {e : ClipEntry} (found : st.firstDefined clips places = some (i, e)) :
    i < clips.length ∧ ∃ c, st.clip c = some e := by
  induction places with
  | nil => exact nomatch found
  | cons j places ih =>
    unfold ClipStore.firstDefined at found
    split at found
    case h_2 => exact ih found
    case h_1 c there =>
    split at found
    case h_2 => exact ih found
    case h_1 entry defined =>
      obtain ⟨rfl, rfl⟩ := Prod.mk.inj (Option.some.inj found)
      exact ⟨(List.getElem?_eq_some_iff.mp there).1, c, defined⟩

theorem ClipStore.InRange.seekBroadcast {st : ClipStore} (h : st.InRange) {prog : Programme} {p : Player}
    (short : prog.clips.length ≤ 8) (place : p.clipIndex ≤ 7) : (seekBroadcast st prog p).InRange := by
  unfold Machine.seekBroadcast
  split
  case isFalse => exact Player.idleAt_inRange place
  case isTrue =>
  split
  case h_2 => exact Player.idleAt_inRange place
  case h_1 i e found =>
    obtain ⟨there, c, defined⟩ := ClipStore.firstDefined_spec found
    exact h.startClip (by omega) (h.clips c e defined)

theorem ClipStore.InRange.seekScript {st : ClipStore} (h : st.InRange) {script : List ClipId} {place : Nat}
    {p : Player} (short : script.length ≤ 8) (found : seekScript st script place = some p) : p.InRange := by
  obtain ⟨⟨i, e⟩, first, rfl⟩ := Option.map_eq_some_iff.mp found
  obtain ⟨there, c, defined⟩ := ClipStore.firstDefined_spec first
  exact h.startClip (by omega) (h.clips c e defined)

/-! ### Frames -/

/-- A player that has sent the sample of its position, the clip not ended: whether or not it has read a group or fallen
silent, it is in range one position on (R145). -/
theorem Player.InRange.advance {p q : Player} (h : p.InRange) {c : CapturedClip} (playing : p.clip = some c)
    (index : q.clipIndex = p.clipIndex) (clip : q.clip = p.clip)
    (goes : q.ended = false)
    (held : ∀ g, q.held = some g → c.base ≤ 4 * g.group ∧ 4 * g.group + 4 ≤ c.base + c.size) :
    q.InRange := by
  have own : q.clip = some c := clip.trans playing
  have only : ∀ d, q.clip = some d → d = c := fun d e => Option.some.inj (e.symm.trans own)
  refine ⟨index ▸ h.place, fun e => (by simp [own] at e), fun d e => ?_, fun d e => ?_, fun d g e there => ?_⟩
  · obtain rfl := only d e
    obtain ⟨start, short, long, -⟩ := h.captured d playing
    simp only [Player.ended, own, decide_eq_false_iff_not, Nat.not_le] at goes
    exact ⟨start, short, long, goes⟩
  · obtain rfl := only d e
    exact h.segment d playing
  · obtain rfl := only d e
    exact held g there

/-- The group read at a position within a segment lies in the segment (R127, R145). -/
theorem Player.InRange.readGroup {p : Player} (h : p.InRange) {c : CapturedClip} (playing : p.clip = some c)
    (within : ¬ c.size ≤ c.start + p.position) (m : List Host.Cell) :
    let g := (Memory.readGroup m (c.address p.position)).group
    c.base ≤ 4 * g ∧ 4 * g + 4 ≤ c.base + c.size := by
  obtain ⟨base, size, -⟩ := h.segment c playing
  simp only [Memory.readGroup, CapturedClip.address]
  omega

/-- A sample sent leaves the player at its place, and in range unless its clip has ended (R145). -/
theorem Player.InRange.sample {p : Player} (h : p.InRange) (st : ClipStore) :
    (p.sample st).2.clipIndex = p.clipIndex ∧ ((p.sample st).2.ended = false → (p.sample st).2.InRange) := by
  unfold Player.sample
  split
  case h_1 => exact ⟨rfl, fun _ => h⟩
  case h_2 c playing =>
  have stands : ∀ g, p.held = some g → c.base ≤ 4 * g.group ∧ 4 * g.group + 4 ≤ c.base + c.size :=
    fun g => h.held c g playing
  have kept : ∀ silent, (Player.mk p.clipIndex p.clip (p.position + 1) silent p.held).ended = false →
      (Player.mk p.clipIndex p.clip (p.position + 1) silent p.held).InRange :=
    fun _ goes => h.advance playing rfl rfl goes stands
  dsimp only
  split
  case isTrue => exact ⟨rfl, kept _⟩
  case isFalse =>
  split
  case isTrue => exact ⟨rfl, kept _⟩
  case isFalse within =>
  have reads : ∀ silent, let g := Memory.readGroup st.memory (c.address p.position)
      (Player.mk p.clipIndex p.clip (p.position + 1) silent (some g)).ended = false →
      (Player.mk p.clipIndex p.clip (p.position + 1) silent (some g)).InRange := by
    intro _ _ goes
    refine h.advance playing rfl rfl goes fun g there => ?_
    obtain rfl := Option.some.inj there
    exact h.readGroup playing within st.memory
  split
  case h_1 =>
    split
    case isTrue => exact ⟨rfl, kept _⟩
    case isFalse =>
    split
    case isTrue => exact ⟨rfl, reads _⟩
    case isFalse => exact ⟨rfl, kept _⟩
  case h_2 =>
    split
    case isTrue => exact ⟨rfl, reads _⟩
    case isFalse => exact ⟨rfl, kept _⟩

theorem nextPlace_le {n i : Nat} (short : n ≤ 8) : nextPlace n i ≤ 7 := by
  unfold nextPlace
  split
  · exact Nat.zero_le _
  · have := Nat.mod_lt (i + 1) (Nat.pos_of_ne_zero ‹n ≠ 0›)
    omega

theorem ClipStore.InRange.broadcastFrame {st : ClipStore} (h : st.InRange) {prog : Programme} {p : Player}
    (short : prog.clips.length ≤ 8) (hp : p.InRange) : (broadcastFrame st prog p).2.InRange := by
  unfold Machine.broadcastFrame
  have sought : (if p.clip = none then Machine.seekBroadcast st prog p else p).InRange := by
    split
    · exact h.seekBroadcast short hp.place
    · exact hp
  dsimp only
  generalize (if p.clip = none then Machine.seekBroadcast st prog p else p) = q at sought
  split
  case isTrue => exact h.seekBroadcast short (nextPlace_le short)
  case isFalse goes => exact (sought.sample st).2 (by simpa using goes)

theorem ClipStore.InRange.poolFrame {st : ClipStore} (h : st.InRange) {p : PoolPlayer} (hp : p.InRange) :
    (poolFrame st p).2.1.InRange := by
  obtain ⟨index, goes⟩ := hp.player.sample st
  unfold Machine.poolFrame
  split
  case h_1 => exact hp
  case h_2 =>
  dsimp only
  split
  case isTrue =>
    split
    case h_1 next found => exact { hp with player := h.seekScript hp.script found }
    case h_2 => exact { hp with player := Player.idleAt_inRange (index ▸ hp.player.place) }
  case isFalse other => exact { hp with player := goes (by simpa using other) }

/-! ### Silence -/

theorem Player.InRange.silence {p : Player} (h : p.InRange) (k : SegmentId) : (p.silence k).InRange := by
  unfold Player.silence
  split
  case h_2 => exact h
  case h_1 =>
  split
  · exact { h with }
  · exact h

theorem Treatment.InRange.silence {u : Treatment} (h : u.InRange) (k : SegmentId) : (u.silence k).InRange where
  programmes := h.programmes
  broadcast p := by
    simp only [Treatment.silence, Vector.getElem_ofFn]
    exact (h.broadcast p).silence k
  pool p := by
    simp only [Treatment.silence, Vector.getElem_ofFn]
    exact { h.pool p with player := (h.pool p).player.silence k }

end Sys2Proof.Machine
end

section
/-! PROOFS. The operations on calls, queues and pool players keep the ranges of the fields: notices, treatment, offers,
joins and moves (chapters 1, 2, 4, 8 and 10). -/

namespace Sys2Proof.Machine

section
variable {G : RangeLaws} {s : State}

namespace State.Ranged

/-! ### Notices -/

theorem enterBacklog (h : s.Ranged G) {r : RecordRef} : (s.enterBacklog r).Ranged G := by
  unfold State.enterBacklog
  split
  · exact h
  · exact h.setNotices

theorem leaveBacklog (h : s.Ranged G) {r : RecordRef} : (s.leaveBacklog r).Ranged G := h.setNotices

theorem markCall (h : s.Ranged G) {k : CallId} {kind : NoticeKind} : (s.markCall k kind).Ranged G := by
  refine .enterBacklog (.setCall h ?_)
  exact { h.call k with }

theorem markMoved (h : s.Ranged G) {k : CallId} {old : QueueId} : (s.markMoved k old).Ranged G := by
  refine .markCall (.setCall h ?_)
  exact { h.call k with }

theorem markAgent (h : s.Ranged G) {a : AgentId} : (s.markAgent a).Ranged G := by
  refine .enterBacklog (.setAgent h ?_)
  exact { h.agent a with }

theorem dropMarks (h : s.Ranged G) {k : CallId} : (s.dropMarks k).Ranged G := by
  refine .leaveBacklog (.setCall h ?_)
  exact { h.call k with }

/-- The posting of an OFFER starts the offer timer, its deadline within 32 bits (R78, R168). -/
theorem clearPosted (h : s.Ranged G) {r : RecordRef} {kind : NoticeKind} : (s.clearPosted r kind).Ranged G := by
  cases r with
  | agent a => exact .setAgent h { h.agent a with }
  | call k =>
    cases kind with
    | OFFER =>
      exact .setCall h { h.call k with offerDeadline := fun _ _ e => Option.some.inj e ▸ deadlineAt_due_le _ _ }
    | MOVED => exact .setCall h { h.call k with }
    | WITHDRAW => exact .setCall h { h.call k with }
    | AUDIO => exact .setCall h { h.call k with }
    | AGENT => exact .setCall h { h.call k with }

theorem post (h : s.Ranged G) {r : RecordRef} {kind : NoticeKind} : (s.post r kind).Ranged G := by
  have written : (s.writeSlot (s.noticeWords r kind)).Ranged G := h.same rfl
  unfold State.post
  dsimp only
  split
  · exact written.setNotices.clearPosted.setPort.leaveBacklog
  · exact written.setNotices.clearPosted.setPort

theorem postHead (h : s.Ranged G) : s.postHead.Ranged G := by
  unfold State.postHead
  split
  case h_1 => exact h
  case h_2 =>
  split
  case h_1 => exact h.post
  case h_2 => exact h.leaveBacklog

theorem drainBy (h : s.Ranged G) (n : Nat) : (State.drainBy n s).Ranged G := by
  induction n generalizing s with
  | zero => exact h
  | succ n ih =>
    unfold State.drainBy
    split
    · exact h
    · exact ih h.postHead

theorem drain (h : s.Ranged G) : s.drain.Ranged G := h.drainBy _

/-! ### Treatment -/

/-- A pool player taken with a script of one to eight clips (R149, R160). -/
theorem takePlayer (h : s.Ranged G) {k : CallId} {p : PoolId} {script : List ClipId} (nonempty : script ≠ [])
    (short : script.length ≤ 8) {audio : AudioState} : (s.takePlayer k p script audio).Ranged G := by
  have player : G.library → PoolPlayer.InRange
      { state := .PLAYING, owner := some (s.handle k), script := script
        player := match seekScript s.store script 0 with
          | some player => player
          | none => .reset } := fun asked =>
    { player := by
        dsimp only
        split
        case h_1 player found => exact (h.store asked).seekScript short found
        case h_2 => exact Player.idleAt_inRange (Nat.zero_le _)
      script := short
      plays := fun _ => nonempty }
  refine .markCall (.setCall (.setPool h player) ?_)
  exact
    { h.call k with
      channel := fun _ n e => by
        obtain rfl := Option.some.inj e
        omega
      nextAnnouncement := fun _ => nofun }

theorem releasePlayer (h : s.Ranged G) {k : CallId} : (s.releasePlayer k).Ranged G := by
  unfold State.releasePlayer
  split
  case h_1 => exact .setCall (.setPool h fun _ => PoolPlayer.idle_inRange) { h.call k with }
  case h_2 => exact h

/-- A call on its queue's programme, its next announcement scheduled (R151, R152). -/
theorem playMusic (h : s.Ranged G) {k : CallId} {q : QueueId} {pr : ProgrammeId} :
    (s.setCall k
      { s.call k with audio := .MUSIC, channel := some pr.val, nextAnnouncement := s.scheduled q }).Ranged G :=
  .setCall h
    { h.call k with
      channel := fun _ n e => by
        obtain rfl := Option.some.inj e
        omega
      nextAnnouncement := fun _ _ e => s.scheduled_due_le q e }

/-- A call in silence, its next announcement scheduled (R151, R152). -/
theorem playSilence (h : s.Ranged G) {k : CallId} {q : QueueId} :
    (s.setCall k
      { s.call k with audio := .SILENT, channel := none, nextAnnouncement := s.scheduled q }).Ranged G :=
  .setCall h { h.call k with channel := fun _ => nofun, nextAnnouncement := fun _ _ e => s.scheduled_due_le q e }

theorem beginTreatment (h : s.Ranged G) {k : CallId} : (s.beginTreatment k).Ranged G := by
  unfold State.beginTreatment
  dsimp only
  split
  case h_1 c _ _ _ => exact h.takePlayer (List.cons_ne_nil c []) (Nat.le_add_left 1 7)
  case h_2 =>
  split
  case h_1 => exact h.playMusic.markCall
  case h_2 => exact h.playSilence

theorem endTreatment (h : s.Ranged G) {k : CallId} : (s.endTreatment k).Ranged G := by
  have released : (s.releasePlayer k).Ranged G := h.releasePlayer
  have silent : ((s.releasePlayer k).setCall k
      { (s.releasePlayer k).call k with audio := .SILENT, channel := none, nextAnnouncement := none }).Ranged G :=
    released.setCall { released.call k with channel := fun _ => nofun, nextAnnouncement := fun _ => nofun }
  unfold State.endTreatment
  dsimp only
  split
  · exact silent.markCall
  · exact silent

theorem resumeMusic (h : s.Ranged G) {k : CallId} : (s.resumeMusic k).Ranged G := by
  unfold State.resumeMusic
  refine .markCall ?_
  split
  case h_1 => exact h.releasePlayer.playMusic
  case h_2 => exact h.releasePlayer.playSilence

theorem skipAnnouncement (h : s.Ranged G) {k : CallId} {due : Nat} : (s.skipAnnouncement k due).Ranged G :=
  .setCall h { h.call k with nextAnnouncement := fun _ _ e => Option.some.inj e ▸ deadlineAt_due_le _ _ }

/-! ### Offers and selection -/

theorem leaveList (h : s.Ranged G) {q : QueueId} {k : CallId} : (s.leaveList q k).Ranged G := h.setWaiting

theorem enterList (h : s.Ranged G) {q : QueueId} {k : CallId} : (s.enterList q k).Ranged G := h.setWaiting

theorem resort (h : s.Ranged G) {q : QueueId} : (s.resort q).Ranged G := h.setWaiting

theorem offer (h : s.Ranged G) {q : QueueId} {k : CallId} {a : AgentId} : (s.offer q k a).Ranged G := by
  refine .markCall (.setAgent (.setReadyList (.setCall (.leaveList h) ?_)) ?_)
  · exact
      { h.call k with
        savedReadySince := fun asked _ e => Option.some.inj e ▸ (h.agent a).readySince asked
        offerDeadline := fun _ => nofun }
  · exact { h.agent a with stateEntry := fun _ => le_rfl }

theorem sweep (h : s.Ranged G) {q : QueueId} : (s.sweep q).Ranged G :=
  State.sweep_induct (State.Ranged G) q (fun _ _ _ _ ht _ _ => ht.offer) s h

theorem select (h : s.Ranged G) {a : AgentId} : (s.select a).Ranged G := by
  rcases s.select_cases a with same | ⟨q, k, -, -, -, offered⟩
  · rw [same]; exact h
  · rw [offered]; exact h.offer

theorem enterReady (h : s.Ranged G) {a : AgentId} {since : Nat} (past : G.stamps → since ≤ s.now) :
    (s.enterReady a since).Ranged G := by
  refine .select (.setReadyList (.setAgent h ?_))
  exact { h.agent a with readySince := past, stateEntry := fun _ => le_rfl }

/-! ### Admission, joins and moves -/

theorem divert (h : s.Ranged G) {q : QueueId} : (s.divert q).Ranged G := by
  unfold State.divert
  split
  · exact h.count fun _ => QueueCounters.InRange.addDiverted
  · exact h

theorem visit (h : s.Ranged G) {visited : List QueueId} {q : QueueId} :
    (if q ∈ visited then s else s.divert q).Ranged G := by
  split
  · exact h
  · exact h.divert

theorem walkBy (h : s.Ranged G) (n : Nat) (visited : List QueueId) (q : QueueId) :
    (State.walkBy n visited q s).1.Ranged G := by
  induction n generalizing s visited q with
  | zero =>
    unfold State.walkBy
    split
    · exact h
    · exact h.visit
  | succ n ih =>
    unfold State.walkBy
    split
    case isTrue => exact h
    case isFalse =>
    dsimp only
    split
    case h_1 _ _ m _ more _ =>
      obtain rfl := Nat.succ.inj more
      exact ih h.visit _ _
    case h_2 => exact h.visit

theorem walk (h : s.Ranged G) {visited : List QueueId} {q : QueueId} : (s.walk visited q).1.Ranged G :=
  h.walkBy 4 visited q

theorem setJoinSeq (h : s.Ranged G) {n : Nat} (small : n ≤ Config.maxU32) : (s.setJoinSeq n).Ranged G :=
  { h with joinSeq := fun _ => small }

theorem join (h : s.Ranged G) {k : CallId} {q : QueueId} : (s.join k q).Ranged G := by
  have entered : G.stamps → (if (s.queue q).params.carryWait then (s.call k).arrival else s.now) ≤ s.now := by
    intro asked
    split
    · exact (h.call k).arrival asked
    · exact le_rfl
  refine .enterList (.count (.setJoinSeq (.setCall h ?_) (satAdd_le _ _)) fun _ => QueueCounters.InRange.addEntered)
  exact { h.call k with joinSeq := h.joinSeq, entry := entered }

theorem settleJoin (h : s.Ranged G) {k : CallId} {q : QueueId} : (s.settleJoin k q).Ranged G := by
  unfold State.settleJoin
  dsimp only
  split
  · exact h.sweep.beginTreatment
  · exact h.sweep

theorem countMove (h : s.Ranged G) {k : CallId} : (s.countMove k).Ranged G :=
  .setCall h { h.call k with moveCount := fun _ => Nat.min_le_right _ _ }

theorem departQueue (h : s.Ranged G) {k : CallId} {overflow : Bool} : (s.departQueue k overflow).Ranged G :=
  h.endTreatment.leaveList.count fun _ hc => hc.addMovedOut overflow

theorem overflowMove (h : s.Ranged G) {k : CallId} {target : QueueId} : (s.overflowMove k target).Ranged G :=
  h.departQueue.countMove.markMoved.join.settleJoin

theorem moveQueued (h : s.Ranged G) {k : CallId} {q : QueueId} : (s.moveQueued k q).Ranged G :=
  h.departQueue.countMove.join.settleJoin

theorem requeue (h : s.Ranged G) {k : CallId} {q : QueueId} : (s.requeue k q).Ranged G := by
  refine .settleJoin (.join (.countMove (.setCall h ?_)))
  exact
    { h.call k with
      channel := fun _ => nofun, savedReadySince := fun _ => nofun, talkStart := fun _ => nofun
      offerDeadline := fun _ => nofun }

theorem arrive (h : s.Ranged G) {k : CallId} {q : QueueId} {callerTag : Word} {cls : Nat} (small : cls ≤ 3) :
    (s.arrive k q callerTag cls).Ranged G := by
  refine .settleJoin (.join (.setCall h ?_))
  exact
    { Call.free_ranged (s.call k).gen s.now with
      cls := fun _ => small, arrival := fun _ => le_rfl, entry := fun _ => le_rfl }

theorem overflowAttempt (h : s.Ranged G) {k : CallId} : (s.overflowAttempt k).Ranged G := by
  unfold State.overflowAttempt
  split
  case h_2 => exact h
  case h_1 =>
  split
  · exact h.overflowMove
  · exact .setCall h.divert { h.divert.call k with }

theorem reclass (h : s.Ranged G) {k : CallId} {cls : Nat} (small : cls ≤ 3) : (s.reclass k cls).Ranged G := by
  have classed : (s.setCall k { s.call k with cls := cls }).Ranged G :=
    h.setCall { h.call k with cls := fun _ => small }
  unfold State.reclass
  dsimp only
  split
  case isFalse => exact classed
  case isTrue =>
  split
  · exact classed.resort
  · exact classed.resort.sweep

/-! ### Withdrawal -/

theorem withdraw (h : s.Ranged G) {k : CallId} {a : AgentId} : (s.withdraw k a).Ranged G := by
  refine .markCall (.setCall h ?_)
  exact { h.call k with savedReadySince := fun _ => nofun, offerDeadline := fun _ => nofun }

theorem returnCall (h : s.Ranged G) {k : CallId} : (s.returnCall k).Ranged G := by
  have queued : (s.setCall k { s.call k with state := .QUEUED, overflowDue := false }).Ranged G :=
    h.setCall { h.call k with }
  unfold State.returnCall
  dsimp only
  split
  · exact queued.enterList.beginTreatment.sweep
  · exact queued.enterList.sweep

theorem settleWithdrawn (h : s.Ranged G) {k : CallId} : (s.settleWithdrawn k).Ranged G := by
  unfold State.settleWithdrawn
  dsimp only
  split
  case isFalse => exact h.returnCall
  case isTrue =>
  split
  case h_2 => exact h.returnCall
  case h_1 =>
  split
  · exact h.overflowMove
  · refine .returnCall (.setCall h.divert ?_)
    exact { h.divert.call k with }

/-! ### Freed slots and abandonments -/

theorem freeCall (h : s.Ranged G) {k : CallId} : (s.freeCall k).Ranged G := by
  unfold State.freeCall
  dsimp only
  split
  · exact h.releasePlayer.leaveList.dropMarks.setCall (Call.free_ranged _ _)
  · exact h.releasePlayer.dropMarks.setCall (Call.free_ranged _ _)

theorem countAbandoned (h : s.Ranged G) {k : CallId} : (s.countAbandoned k).Ranged G :=
  h.count fun _ hc => hc.addAbandoned _

end State.Ranged
end
end Sys2Proof.Machine
end

section
/-! PROOFS. Wraps, the changes of agents, definitions, frames and the time base keep the ranges of the fields
(chapters 1, 3, 5, 8 and 9). -/

namespace Sys2Proof.Machine

/-! ### What leaves T -/

theorem State.talkSeconds_le (s : State) (k : CallId) : s.talkSeconds k ≤ s.now := Nat.sub_le _ _

theorem State.sweep_now (s : State) (q : QueueId) : (s.sweep q).now = s.now :=
  State.sweep_induct (fun t => t.now = s.now) q (fun _ _ _ _ ht _ _ => by rw [State.offer_now, ht]) s rfl

theorem State.settleJoin_now (s : State) (k : CallId) (q : QueueId) : (s.settleJoin k q).now = s.now := by
  have swept := s.sweep_now q
  unfold State.settleJoin
  dsimp only
  split
  · rw [State.now, (State.beginTreatment_only _ k).rest]
    exact swept
  · exact swept

theorem State.requeue_now (s : State) (k : CallId) (q : QueueId) : (s.requeue k q).now = s.now := by
  unfold State.requeue
  dsimp only
  rw [State.settleJoin_now, State.join_now]
  rfl

theorem State.endScript_timeBase (s : State) (p : PoolId) : (s.endScript p).timeBase = s.timeBase := by
  unfold State.endScript
  dsimp only
  split
  case h_1 h _ => rw [((s.setPool p .idle).resumeMusic_only h.slot).rest]; rfl
  case h_2 => rfl

theorem State.sendFrame_timeBase (s : State) : s.sendFrame.timeBase = s.timeBase := by
  have ends : ∀ (l : List PoolId) (t : State), (l.foldl State.endScript t).timeBase = t.timeBase := fun l t =>
    List.foldlRecOn (motive := fun u => u.timeBase = t.timeBase) l State.endScript rfl fun u hu p _ =>
      (u.endScript_timeBase p).trans hu
  unfold State.sendFrame
  dsimp only
  split
  case h_1 => rfl
  case h_2 => rw [(State.drain_only _).timeBase, ends]; rfl

section
variable {G : RangeLaws} {s : State}

namespace State.Ranged

/-! ### Wraps -/

/-- The deadline of a wrap lies within its limit from its entry on (R92). -/
theorem enterWrap (h : s.Ranged G) {a : AgentId} {q : QueueId} {talk : Nat} (past : G.stamps → talk ≤ s.now) :
    (s.enterWrap a q talk).Ranged G := by
  refine .setAgent h ?_
  exact
    { h.agent a with
      wrap := fun _ => ⟨min_le_min_right _ (Nat.le_add_right _ _), Nat.min_le_right _ _⟩
      stateEntry := fun _ => le_rfl
      wrapStart := fun _ => le_rfl
      wrapTalk := past }

theorem countWrap (h : s.Ranged G) {q : QueueId} {t w : Nat} : (s.countWrap q t w).Ranged G := by
  have counted : (s.count q (·.addHandled t w)).Ranged G := h.count fun _ hc => hc.addHandled t w
  exact counted.setQueue ⟨(counted.queue q).params, (counted.queue q).counters⟩

theorem marksExpiry (h : s.Ranged G) {a : AgentId} {expiry : Bool} :
    (if expiry then s.markAgent a else s).Ranged G := by
  split
  · exact h.markAgent
  · exact h

theorem endWrap (h : s.Ranged G) {a : AgentId} {expiry : Bool} : (s.endWrap a expiry).Ranged G := by
  obtain ⟨t, wrapped, ends⟩ := s.endWrap_cases a expiry
  have ranged : t.Ranged G := by
    rw [wrapped]
    refine .setAgent h.countWrap ?_
    exact
      { h.agent a with
        pending := fun _ => nofun
        wrap := fun _ => ⟨le_rfl, Nat.zero_le _⟩
        counters := fun asked => ((h.agent a).counters asked).addWrap _ _
        stateEntry := fun _ => le_rfl
        wrapStart := fun _ => Nat.zero_le _
        wrapTalk := fun _ => Nat.zero_le _ }
  have now : (if expiry then t.markAgent a else t).now = s.now := by
    rw [wrapped]
    split
    · rw [State.markAgent_eq]; rfl
    · rfl
  rw [ends]
  split
  case h_1 => exact ranged.marksExpiry.enterReady fun _ => now.ge
  case h_2 => refine .marksExpiry (.setAgent ranged ?_); exact { ranged.agent a with }
  case h_3 => refine .marksExpiry (.setAgent ranged ?_); exact { ranged.agent a with }

theorem endWrapAtEntry (h : s.Ranged G) {a : AgentId} {q : QueueId} : (s.endWrapAtEntry a q).Ranged G := by
  unfold State.endWrapAtEntry
  split
  · exact h.endWrap
  · exact h

theorem wrapTransfer (h : s.Ranged G) {agent : Option AgentId} {q : QueueId} {talk : Nat}
    (past : G.stamps → talk ≤ s.now) : (s.wrapTransfer agent q talk).Ranged G := by
  unfold State.wrapTransfer
  split
  · exact (h.enterWrap past).endWrapAtEntry
  · exact h

theorem moveTo (h : s.Ranged G) {k : CallId} {q : QueueId} : (s.moveTo k q).Ranged G := by
  unfold State.moveTo
  dsimp only
  split
  · exact h.moveQueued
  · exact h.requeue.wrapTransfer fun _ => (s.talkSeconds_le k).trans (s.requeue_now k q).ge

/-! ### Answers and returns -/

theorem answer (h : s.Ranged G) {k : CallId} {a : AgentId} : (s.answer k a).Ranged G := by
  have released : (s.releasePlayer k).Ranged G := h.releasePlayer
  have answered : ((s.releasePlayer k).setCall k
      (((s.releasePlayer k).call k).answered (s.releasePlayer k).now)).Ranged G := by
    refine .setCall released ?_
    exact
      { released.call k with
        channel := fun _ => nofun
        savedReadySince := fun _ => nofun
        talkStart := fun _ _ e => (Option.some.inj e).ge
        offerDeadline := fun _ => nofun
        nextAnnouncement := fun _ => nofun }
  unfold State.answer
  dsimp only
  generalize (s.releasePlayer k).setCall k (((s.releasePlayer k).call k).answered (s.releasePlayer k).now) = u
    at answered
  have left : (if (u.call k).marks.isEmpty then u.leaveBacklog (.call k) else u).Ranged G := by
    split
    · exact answered.leaveBacklog
    · exact answered
  refine .count (.setAgent left ?_) fun _ hc => hc.addAnswered _ _
  exact { left.agent a with stateEntry := fun _ => le_rfl }

theorem releaseAgent (h : s.Ranged G) {a : AgentId} : (s.releaseAgent a).Ranged G := by
  refine .markAgent (.setAgent h ?_)
  exact
    { h.agent a with
      counters := fun asked => { (h.agent a).counters asked with ronaCount := satAdd_le _ _ }
      stateEntry := fun _ => le_rfl }

theorem returnAgent (h : s.Ranged G) {a : AgentId} {since : Nat} (past : G.stamps → since ≤ s.now) :
    (s.returnAgent a since).Ranged G := by
  refine .enterReady (.setAgent h ?_) past
  exact { h.agent a with }

/-! ### Changes of agents -/

theorem countAway (h : s.Ranged G) {a : AgentId} : (s.countAway a).Ranged G := by
  refine .setAgent h ?_
  exact
    { h.agent a with
      counters := fun asked => { (h.agent a).counters asked with awaySeconds := satAdd_le _ _ } }

theorem enterAway (h : s.Ranged G) {a : AgentId} {reason : Fin 16} : (s.enterAway a reason).Ranged G := by
  refine .setAgent h ?_
  exact { h.agent a with stateEntry := fun _ => le_rfl }

theorem enterLoggedOut (h : s.Ranged G) {a : AgentId} : (s.enterLoggedOut a).Ranged G := by
  refine .setAgent h ?_
  exact { h.agent a with stateEntry := fun _ => le_rfl }

theorem setPending (h : s.Ranged G) {a : AgentId} {p : PendingChange} (hosts : ∀ r, p = .AWAY r → r.val ≤ 14) :
    (s.setPending a p).Ranged G := by
  refine .setAgent h ?_
  exact { h.agent a with pending := fun _ => hosts }

theorem leaveReady (h : s.Ranged G) {a : AgentId} : (s.leaveReady a).Ranged G := h.setReadyList

theorem login (h : s.Ranged G) {a : AgentId} {station : Nat} {skills : List Skill} {away : Option (Fin 16)}
    (number : station ≤ 65535) (valid : SkillsInRange skills) : (s.login a station skills away).Ranged G := by
  have signed : (s.setAgent a ((s.agent a).signIn station skills s.now)).Ranged G := by
    refine .setAgent h ?_
    exact
      { h.agent a with
        station := fun _ => number, skills := fun _ => valid, pending := fun _ => nofun, stateEntry := fun _ => le_rfl }
  unfold State.login
  dsimp only
  split
  · exact signed.enterReady fun _ => le_rfl
  · exact signed.enterAway

theorem logout (h : s.Ranged G) {a : AgentId} {t : State} (done : s.logout a = some t) : t.Ranged G := by
  unfold State.logout at done
  split at done <;> obtain ⟨⟩ := done
  · exact h.countAway.enterLoggedOut
  · exact h.leaveReady.enterLoggedOut
  · exact h.setPending nofun
  · exact h.setPending nofun

theorem setReady (h : s.Ranged G) {a : AgentId} {t : State} (done : s.setReady a = some t) : t.Ranged G := by
  unfold State.setReady at done
  split at done <;> obtain ⟨⟩ := done
  · exact h.countAway.enterReady fun _ => le_rfl
  · exact h
  · exact h.setPending nofun
  · exact (h.setPending (p := .NONE) nofun).endWrap

theorem setAway (h : s.Ranged G) {a : AgentId} {r : Fin 16} (hosts : r.val ≤ 14) {t : State}
    (done : s.setAway a r = some t) : t.Ranged G := by
  have pended : (s.setPending a (.AWAY r)).Ranged G := h.setPending fun _ e => PendingChange.AWAY.inj e ▸ hosts
  unfold State.setAway at done
  split at done
  case h_1 => exact nomatch done
  case h_2 =>
    obtain rfl := Option.some.inj done
    refine .setAgent h ?_
    exact { h.agent a with }
  case h_3 =>
    obtain rfl := Option.some.inj done
    exact h.leaveReady.enterAway
  case h_4 => exact nomatch done
  all_goals
    split at done
    · exact nomatch done
    · exact Option.some.inj done ▸ pended

theorem reskill (h : s.Ranged G) {a : AgentId} {skills : List Skill} (valid : SkillsInRange skills) :
    (s.reskill a skills).Ranged G := by
  have stored : (s.setAgent a { s.agent a with skills := skills }).Ranged G := by
    refine .setAgent h ?_
    exact { h.agent a with skills := fun _ => valid }
  unfold State.reskill
  dsimp only
  split
  · exact stored.select
  · exact stored

/-! ### Modes and definitions -/

theorem changeMode (h : s.Ranged G) {q : QueueId} {m : QMode} : (s.changeMode q m).Ranged G := by
  have written : (s.setQueue q { s.queue q with mode := m }).Ranged G :=
    h.setQueue ⟨(h.queue q).params, (h.queue q).counters⟩
  unfold State.changeMode
  dsimp only
  split
  · exact written.sweep
  · exact written

theorem retune (h : s.Ranged G) {programme : Option ProgrammeId} {k : CallId} :
    (State.retune programme s k).Ranged G := by
  have channel : ∀ (p : ProgrammeId) (n : Nat), some p.val = some n → n < 48 := fun p n e => by
    obtain rfl := Option.some.inj e
    omega
  unfold State.retune
  split
  case h_1 => refine .markCall (.setCall h ?_); exact { h.call k with channel := fun _ => channel _ }
  case h_2 => refine .markCall (.setCall h ?_); exact { h.call k with channel := fun _ => nofun }
  case h_3 => refine .markCall (.setCall h ?_); exact { h.call k with channel := fun _ => channel _ }
  all_goals exact h

theorem reschedule (h : s.Ranged G) {before after : Bool} {interval : Nat} {k : CallId} :
    (State.reschedule before after interval s k).Ranged G := by
  unfold State.reschedule
  dsimp only
  split
  case isTrue => refine .setCall h ?_; exact { h.call k with nextAnnouncement := fun _ => nofun }
  case isFalse =>
  split
  case isFalse => exact h
  case isTrue =>
  split
  case isFalse => exact h
  case isTrue =>
    refine .setCall h ?_
    exact { h.call k with nextAnnouncement := fun _ _ e => Option.some.inj e ▸ deadlineAt_due_le _ _ }

theorem unspend (h : s.Ranged G) {k : CallId} : (s.unspend k).Ranged G := by
  refine .setCall h ?_
  exact { h.call k with }

/-- What one call's change keeps, the changes of a list of calls keep. -/
theorem each (h : s.Ranged G) {f : State → CallId → State} (keeps : ∀ t k, t.Ranged G → (f t k).Ranged G)
    (l : List CallId) : (l.foldl f s).Ranged G :=
  List.foldlRecOn l f h fun t ht k _ => keeps t k ht

/-- A definition whose parameters are in range (R14 to R19). -/
theorem define (h : s.Ranged G) {q : QueueId} {d : QDefinition}
    (valid : d.params.InRange ∧ d.params.overflowTarget ≠ some q) : (s.define q d).Ranged G := by
  have stored : (s.setQueue q ((s.queue q).define d)).Ranged G :=
    h.setQueue ⟨fun _ => valid, (h.queue q).counters⟩
  unfold State.define
  dsimp only
  refine .sweep ?_
  generalize s.setQueue q ((s.queue q).define d) = t at stored
  have sorted : (if (s.queue q).params.classBoost = d.params.classBoost then t else t.resort q).Ranged G := by
    split
    · exact stored
    · exact stored.resort
  generalize (if (s.queue q).params.classBoost = d.params.classBoost then t else t.resort q) = u at sorted
  have tuned : (if (s.queue q).params.programme = d.params.programme then u
      else (u.members q).foldl (State.retune d.params.programme) u).Ranged G := by
    split
    · exact sorted
    · exact sorted.each (fun _ _ ht => ht.retune) _
  generalize (if (s.queue q).params.programme = d.params.programme then u
      else (u.members q).foldl (State.retune d.params.programme) u) = v at tuned
  have scheduled := tuned.each
    (f := State.reschedule (s.queue q).announcing (v.queue q).announcing d.params.announceInterval)
    (fun _ _ ht => ht.reschedule) (v.members q)
  split
  · exact scheduled
  · exact scheduled.each (fun _ _ ht => ht.unspend) _

/-! ### Frames and announcements -/

theorem endScript (h : s.Ranged G) {p : PoolId} : (s.endScript p).Ranged G := by
  unfold State.endScript
  dsimp only
  split
  · exact (h.setPool fun _ => PoolPlayer.idle_inRange).resumeMusic
  · exact h.setPool fun _ => PoolPlayer.idle_inRange

theorem sendFrame (h : s.Ranged G) : s.sendFrame.Ranged G := by
  have advanced : G.library → Treatment.InRange
      { s.treatment with
        broadcast := Vector.ofFn fun p => (s.broadcastStep p).2
        pool := Vector.ofFn fun p => (s.poolStep p).2.1 } := fun asked =>
    { programmes := (h.treatment asked).programmes
      broadcast := fun p => by
        simp only [Vector.getElem_ofFn]
        exact (h.store asked).broadcastFrame ((h.treatment asked).programmes p) ((h.treatment asked).broadcast p)
      pool := fun p => by
        simp only [Vector.getElem_ofFn]
        exact (h.store asked).poolFrame ((h.treatment asked).pool p) }
  have sent : (s.setFrame s.samples (s.framesSent + 1)).Ranged G := h.same rfl
  unfold State.sendFrame
  dsimp only
  split
  · exact sent.setTreatment advanced
  · exact .drain (List.foldlRecOn _ State.endScript (sent.setTreatment advanced) fun _ ht _ _ => ht.endScript)

end State.Ranged

theorem spokenEntries_length_le (v : Nat) : (spokenEntries v).length ≤ 2 := by
  unfold spokenEntries
  split
  · exact Nat.le_succ 1
  · split
    · exact Nat.le_succ 1
    · exact le_rfl

/-- An announcement is of eight clips at most (Table 8-8). -/
theorem announcementEntries_length_le (mode : AnnounceMode) (p m : Nat) :
    (announcementEntries mode p m).length ≤ 8 := by
  have first := spokenEntries_length_le p
  have second := spokenEntries_length_le m
  cases mode <;> simp [announcementEntries] <;> omega

theorem State.composeScript_length_le (s : State) (k : CallId) : (s.composeScript k).length ≤ 8 :=
  (List.length_filterMap_le _ _).trans (announcementEntries_length_le _ _ _)

theorem State.Ranged.announce (h : s.Ranged G) {k : CallId} {due : Nat} : (s.announce k due).Ranged G := by
  have short := s.composeScript_length_le k
  unfold State.announce
  dsimp only
  split
  case isFalse => exact h.skipAnnouncement
  case isTrue =>
  split
  case h_1 x xs _ script => exact (h.takePlayer (List.cons_ne_nil x xs) (script ▸ short)).drain
  case h_2 => exact h.skipAnnouncement

/-! ### The time base -/

theorem TimeBase.secondBoundary_time (b : TimeBase) : b.time ≤ b.secondBoundary.time := by
  unfold TimeBase.secondBoundary
  dsimp only
  split
  · exact Nat.le_succ _
  · exact le_rfl

theorem TimeBase.settle_time (b : TimeBase) : b.time ≤ b.settle.time := by
  unfold TimeBase.settle
  split
  · exact b.secondBoundary_time
  · exact le_rfl

theorem TimeBase.InRange.withCounts {b : TimeBase} (h : b.InRange) {periods time : Nat} (few : periods < 8016)
    (bounded : time ≤ Config.maxU32) : ({ b with periodCount := periods, time := time } : TimeBase).InRange :=
  { h with periods := few, time := bounded }

theorem TimeBase.InRange.secondBoundary {b : TimeBase} (h : b.InRange) : b.secondBoundary.InRange := by
  refine h.withCounts ((Nat.sub_le _ _).trans_lt h.periods) ?_
  split
  case isTrue below => exact below
  case isFalse => exact h.time

theorem TimeBase.InRange.settle {b : TimeBase} (h : b.InRange) : b.settle.InRange := by
  unfold TimeBase.settle
  split
  · exact h.secondBoundary
  · exact h

/-- With the second boundary taken first, at most sixteen periods counted keep the period count in range (R165,
R166). -/
theorem TimeBase.InRange.counted {b : TimeBase} (h : b.InRange) {n : Nat} (few : n ≤ 16) :
    (b.settle.countPeriods n).InRange where
  __ := h.settle
  periods := by
    have below := h.periods
    unfold TimeBase.settle
    split
    case isTrue =>
      simp only [TimeBase.secondBoundary, TimeBase.countPeriods, Config.periodsPerSecond]
      omega
    case isFalse reached =>
      simp only [Config.periodsPerSecond, Nat.not_le] at reached
      simp only [TimeBase.countPeriods]
      omega

theorem State.Ranged.settleSecond (h : s.Ranged G) : s.settleSecond.Ranged G :=
  h.setTimeBase s.timeBase.settle_time fun asked => (h.time asked).settle

theorem syncPeriods_le {last : Option Nat} {position j : Nat} (counts : syncPeriods last position = some j) :
    j ≤ 16 := by
  unfold syncPeriods at counts
  split at counts
  case h_1 => exact nomatch counts
  case h_2 =>
  dsimp only at counts
  split at counts
  case isTrue regular => exact Option.some.inj counts ▸ regular.2.2
  case isFalse => exact nomatch counts

theorem State.Ranged.enterLocked (h : s.Ranged G) {position : Nat} : (s.enterLocked position).Ranged G := by
  have sent := h.settleSecond.sendFrame
  have base : s.settleSecond.sendFrame.timeBase = s.timeBase.settle := State.sendFrame_timeBase _
  unfold State.enterLocked
  dsimp only
  refine .setPort (sent.setTimeBase ?_ fun asked => ?_)
  · exact le_rfl
  · rw [base]
    exact { (h.time asked).counted (Nat.le_add_left 1 15) with run := nofun, sync := fun _ => nofun }

end
end Sys2Proof.Machine
end

section
/-! PROOFS. What the words of a request bring into a record is in its range (R12, R13, R46, R52, R127, R129, R134,
R148). -/

namespace Sys2Proof.Machine

theorem targetOf_reason_le {target reason : Word} {r : Fin 16} (h : targetOf target reason = some (some r)) :
    r.val ≤ 14 := by
  unfold targetOf at h
  split at h
  case h_1 => exact nomatch Option.some.inj h
  case h_3 => exact nomatch h
  case h_2 =>
  split at h
  case isTrue below => exact Option.some.inj (Option.some.inj h) ▸ Nat.le_of_lt_succ below
  case isFalse => exact nomatch h

theorem skillOf_level {w : Word} {k : Skill} (h : skillOf w = some k) : 1 ≤ k.level ∧ k.level ≤ 9 := by
  unfold skillOf at h
  dsimp only at h
  split at h
  case isFalse => exact nomatch h
  case isTrue =>
  split at h
  case isTrue level => exact Option.some.inj h ▸ level
  case isFalse => exact nomatch h

theorem allOf_length {α : Type} {f : Word → Option α} {ws : List Word} {l : List α} (h : allOf f ws = some l) :
    l.length = ws.length := (allOf_eq_some h).length_eq.symm

theorem allOf_mem {α : Type} {f : Word → Option α} {ws : List Word} {l : List α} (h : allOf f ws = some l) :
    ∀ x ∈ l, ∃ w, f w = some x := by
  have reads := allOf_eq_some h
  clear h
  induction reads with
  | nil => exact nofun
  | cons read _ ih => exact List.forall_mem_cons.mpr ⟨⟨_, read⟩, ih⟩

theorem skillsOf_inRange {ws : List Word} {l : List Skill} (h : skillsOf ws = some l) : SkillsInRange l := by
  unfold skillsOf at h
  split at h
  case isFalse => exact nomatch h
  case isTrue short =>
  split at h
  case h_2 => exact nomatch h
  case h_1 m read =>
  split at h
  case isFalse => exact nomatch h
  case isTrue distinct =>
    obtain rfl := Option.some.inj h
    refine ⟨(allOf_length read).trans_le short, distinct, fun k there => ?_⟩
    obtain ⟨w, skill⟩ := allOf_mem read k there
    exact skillOf_level skill

theorem clipsOf_length_le {ws : List Word} {l : List ClipId} (h : clipsOf ws = some l) : l.length ≤ 8 := by
  unfold clipsOf at h
  split at h
  case isTrue short => exact (allOf_length h).trans_le short
  case isFalse => exact nomatch h

/-- No boundary of a table that never falls lies above the last. -/
theorem le_getLastD_of_ascending {l : List Nat} (rising : ascending l = true) (d : Nat) :
    ∀ b ∈ l, b ≤ l.getLastD d := by
  induction l generalizing d with
  | nil => exact nofun
  | cons a l ih =>
    cases l with
    | nil => simp
    | cons b rest =>
      simp only [ascending, Bool.and_eq_true, decide_eq_true_eq] at rising
      have above := ih rising.2 a
      intro x there
      rcases List.mem_cons.mp there with rfl | there
      · exact rising.1.trans (above b List.mem_cons_self)
      · exact above x there

theorem getD_le_of_boundsValid {b : List Nat} (valid : boundsValid b = true) (i : Nat) : b.getD i 0 ≤ 4096 := by
  simp only [boundsValid, Bool.and_eq_true, decide_eq_true_eq] at valid
  rw [List.getD_eq_getElem?_getD]
  cases there : b[i]? with
  | none => exact Nat.zero_le _
  | some x => exact (le_getLastD_of_ascending valid.1 0 x (List.mem_of_getElem? there)).trans valid.2

theorem clamp_mem (lo hi n : Nat) (order : lo ≤ hi) : lo ≤ clamp lo hi n ∧ clamp lo hi n ≤ hi := by
  unfold clamp
  omega

theorem clampOrOff_mem (lo hi n : Nat) (order : lo ≤ hi) :
    clampOrOff lo hi n = 0 ∨ (lo ≤ clampOrOff lo hi n ∧ clampOrOff lo hi n ≤ hi) := by
  unfold clampOrOff
  split
  · exact .inl rfl
  · exact .inr (clamp_mem lo hi n order)

theorem qDefineIds_valid {q : QueueId} {p : QDefineWords} {skill : Fin 64} {policy : AgentPolicy}
    {target : Option QueueId} {greeting : Option ClipId} {programme : Option ProgrammeId} {mode : AnnounceMode}
    (h : qDefineIds q p = some (skill, policy, target, greeting, programme, mode)) :
    (1 ≤ p.minLevel.toNat ∧ p.minLevel.toNat ≤ 9) ∧ target ≠ some q := by
  unfold qDefineIds at h
  split at h
  case h_2 => exact nomatch h
  case h_1 =>
  split at h
  case isFalse => exact nomatch h
  case isTrue valid =>
    obtain ⟨⟩ := h
    exact ⟨⟨valid.1, valid.2.1⟩, valid.2.2⟩

/-- What a Q_DEFINE stores is in its range, and is no queue's own target (R12, R13). -/
theorem qDefineOf_inRange {q : QueueId} {defined : Bool} {p : QDefineWords} {d : QDefinition}
    (h : qDefineOf q defined p = some d) : d.params.InRange ∧ d.params.overflowTarget ≠ some q := by
  unfold qDefineOf at h
  split at h
  case h_1 => exact nomatch h
  case h_2 ids =>
    obtain ⟨level, own⟩ := qDefineIds_valid ids
    obtain rfl := Option.some.inj h
    exact ⟨{
      minLevel := level
      capacity := (clamp_mem _ _ _ (Nat.zero_le _)).2
      weight := clamp_mem _ _ _ (by decide)
      skillGain := (clamp_mem _ _ _ (Nat.zero_le _)).2
      classBoost := (clamp_mem _ _ _ (Nat.zero_le _)).2
      guard := clampOrOff_mem _ _ _ (by decide)
      answerTimeout := clamp_mem _ _ _ (by decide)
      wrapBase := (clamp_mem _ _ _ (Nat.zero_le _)).2
      wrapExtensionMax := (clamp_mem _ _ _ (Nat.zero_le _)).2
      overflowAfter := clampOrOff_mem _ _ _ (by decide)
      serviceTarget := clamp_mem _ _ _ (by decide)
      serviceGoal := (clamp_mem _ _ _ (Nat.zero_le _)).2
      shortAbandon := (clamp_mem _ _ _ (Nat.zero_le _)).2
      announceInterval := clampOrOff_mem _ _ _ (by decide) }, own⟩

/-- A queue holds as many calls as there are slots, twice over at most, where its list names none twice. -/
theorem State.occupancy_le {s : State} {q : QueueId} (distinct : (s.queue q).waiting.Nodup) :
    s.occupancy q ≤ Config.maxU32 := by
  have waiting : s.depth q ≤ 2048 := by simpa [State.depth] using distinct.length_le_card
  have offered : s.offeredCount q ≤ 2048 := by
    simpa [State.offeredCount] using List.countP_le_length (l := s.calls.toList)
      (p := fun c => c.state == .OFFERED && c.queue == q)
  exact (Nat.add_le_add waiting offered).trans (by decide)

end Sys2Proof.Machine
end

section
/-! PROOFS. The requests keep the ranges of the fields: queues, calls, agents, clips and programmes (chapters 1
to 8). -/

namespace Sys2Proof.Machine

/-- The law of the store looks at its clips and its boundaries. -/
theorem ClipStore.InRange.of_clips {st t : ClipStore} (h : st.InRange) (clips : t.clips = st.clips)
    (bounds : ∀ i : SegmentId, t.bounds[i.val] ≤ 4096) : t.InRange where
  clips c e defined := h.clips c e (by rw [← defined, ClipStore.clip, ClipStore.clip, clips])
  bounds := bounds

/-- The law of the treatment unit looks at its programmes and its players. -/
theorem Treatment.InRange.of_same {u v : Treatment} (h : u.InRange) (programmes : v.programmes = u.programmes)
    (broadcast : v.broadcast = u.broadcast) (pool : v.pool = u.pool) : v.InRange where
  programmes p := programmes ▸ h.programmes p
  broadcast p := broadcast ▸ h.broadcast p
  pool p := pool ▸ h.pool p

section
variable {G : RangeLaws} {s : State}

namespace State.Ranged

theorem toReply (h : s.Ranged G) (r : Reply) : (s.toReply r).Ranged G := by
  unfold State.toReply
  split
  · exact h.setPort
  · exact h.same rfl

/-- A request keeps the ranges where what it does at its owning block keeps them. -/
theorem takeRequest (h : s.Ranged G) {b : Block} {body : State → State × Answer} (does : (body s).1.Ranged G) :
    LeadsTo (State.Ranged G) (takeRequest b s body) := .takeRequest (fun _ r hu => hu.toReply r) h does

/-! ### Queues -/

theorem qDefineBody (h : s.Ranged G) (p : QDefineWords) : (State.qDefineBody p s).1.Ranged G := by
  unfold State.qDefineBody
  split
  case h_1 => exact h
  case h_2 q _ =>
  split
  case h_1 => exact h
  case h_2 defined => exact (h.define (qDefineOf_inRange defined)).drain

theorem qModeBody (h : s.Ranged G) (queue mode : Word) : (State.qModeBody queue mode s).1.Ranged G := by
  unfold State.qModeBody
  split
  case h_2 => exact h
  case h_1 =>
  split
  · exact h.changeMode.drain
  · exact h

theorem qQueryBody (h : s.Ranged G) (queue : Word) : (State.qQueryBody queue s).1.Ranged G := by
  unfold State.qQueryBody
  split <;> exact h

theorem qListBody (h : s.Ranged G) (queue start maximum minWait : Word) :
    (State.qListBody queue start maximum minWait s).1.Ranged G := by
  unfold State.qListBody
  split
  · exact h
  · split <;> exact h

/-- A clear leaves the occupancy in the entered counter, which the lists of distinct calls bound (R111). -/
theorem qCountersBody (h : s.Ranged G) (distinct : G.counters → ∀ q, (s.queue q).waiting.Nodup)
    (queue clear : Word) : (State.qCountersBody queue clear s).1.Ranged G := by
  unfold State.qCountersBody
  split
  case h_1 => exact h
  case h_2 q _ =>
  split
  case isFalse => exact h
  case isTrue =>
  dsimp only
  split
  case isFalse => exact h
  case isTrue =>
  refine .setQueue h ⟨(h.queue q).params, fun asked => ?_⟩
  exact { QueueCounters.zero_inRange with entered := State.occupancy_le (distinct asked q) }

/-! ### Calls -/

theorem cArriveBody (h : s.Ranged G) (callerTag queue cls : Word) :
    (State.cArriveBody callerTag queue cls s).1.Ranged G := by
  unfold State.cArriveBody
  split
  case h_1 => exact h
  case h_2 q _ =>
  split
  case isTrue => exact h
  case isFalse =>
  split
  case h_1 => exact h
  case h_2 =>
  have walked : (s.walk [] q).1.Ranged G := h.walk
  dsimp only
  split
  case h_1 => exact walked
  case h_2 =>
    refine .drain (.arrive walked ?_)
    exact Nat.min_le_right _ _

theorem cAnswerBody (h : s.Ranged G) (handle agent : Word) : (State.cAnswerBody handle agent s).1.Ranged G := by
  unfold State.cAnswerBody
  split
  case h_1 => exact h
  case h_2 =>
  split
  case h_1 => exact h
  case h_2 =>
  split
  · exact h.answer
  · exact h

theorem cEndBody (h : s.Ranged G) (handle : Word) : (State.cEndBody handle s).1.Ranged G := by
  unfold State.cEndBody
  split
  case h_1 => exact h
  case h_2 k _ =>
  have abandoned : ((s.countAbandoned k).freeCall k).Ranged G := h.countAbandoned.freeCall
  have now : ((s.countAbandoned k).freeCall k).now = s.now := by
    rw [State.now, State.freeCall_rest]
    rfl
  dsimp only
  split
  case h_1 => exact h
  case h_2 => exact abandoned
  case h_3 =>
    refine .drain ?_
    split
    case h_1 a _ =>
      refine abandoned.returnAgent fun asked => now ▸ ?_
      cases saved : (s.call k).savedReadySince with
      | none => exact (h.agent a).readySince asked
      | some n => exact (h.call k).savedReadySince asked n saved
    case h_2 => exact abandoned
  case h_4 =>
    refine .drain ?_
    split
    case h_1 => exact (h.enterWrap fun _ => s.talkSeconds_le k).freeCall.endWrapAtEntry
    case h_2 => exact h.freeCall

theorem cMoveBody (h : s.Ranged G) (handle queue : Word) : (State.cMoveBody handle queue s).1.Ranged G := by
  unfold State.cMoveBody
  split
  case h_1 => exact h
  case h_2 k _ =>
  split
  case h_1 => exact h
  case h_2 q _ =>
  split
  case isTrue => exact h
  case isFalse =>
  split
  case isTrue => exact h
  case isFalse =>
  split
  case isTrue => exact h
  case isFalse =>
  generalize (if (s.call k).state = .QUEUED then [(s.call k).queue] else []) = visited
  have walked : (s.walk visited q).1.Ranged G := h.walk
  dsimp only
  split
  case h_1 => exact walked
  case h_2 => exact walked.moveTo.drain

theorem cClassBody (h : s.Ranged G) (handle cls : Word) : (State.cClassBody handle cls s).1.Ranged G := by
  unfold State.cClassBody
  split
  case h_1 => exact h
  case h_2 => exact (h.reclass (Nat.min_le_right _ _)).drain

theorem cQueryBody (h : s.Ranged G) (handle : Word) : (State.cQueryBody handle s).1.Ranged G := by
  unfold State.cQueryBody
  split <;> exact h

/-! ### Agents -/

theorem aLoginBody (h : s.Ranged G) (agent station initial reason : Word) (skills : List Word) :
    (State.aLoginBody agent station initial reason skills s).1.Ranged G := by
  unfold State.aLoginBody
  split
  case h_2 => exact h
  case h_1 list _ =>
  split
  case isTrue => exact h
  case isFalse number =>
  split
  case isTrue => exact h
  case isFalse =>
  split
  case isTrue => exact h
  case isFalse => exact (h.login (Nat.le_of_not_lt number) (skillsOf_inRange list)).drain

theorem aLogoutBody (h : s.Ranged G) (agent : Word) : (State.aLogoutBody agent s).1.Ranged G := by
  unfold State.aLogoutBody
  split
  case h_1 => exact h
  case h_2 =>
  split
  case h_1 done => exact h.logout done
  case h_2 => exact h

theorem aSetBody (h : s.Ranged G) (agent target reason expected : Word) :
    (State.aSetBody agent target reason expected s).1.Ranged G := by
  unfold State.aSetBody
  split
  case h_1 => exact h
  case h_2 =>
  dsimp only
  split
  case h_1 => exact h
  case h_2 named =>
  split
  case isTrue => exact h
  case isFalse =>
  split
  case h_1 =>
    split
    case h_1 done => exact (h.setReady done).drain
    case h_2 => exact h
  case h_2 =>
    split
    case h_1 done => exact h.setAway (targetOf_reason_le named) done
    case h_2 => exact h

theorem aSkillsBody (h : s.Ranged G) (agent : Word) (skills : List Word) :
    (State.aSkillsBody agent skills s).1.Ranged G := by
  unfold State.aSkillsBody
  split
  case h_1 list => exact (h.reskill (skillsOf_inRange list)).drain
  case h_2 => exact h

theorem aQueryBody (h : s.Ranged G) (agent : Word) : (State.aQueryBody agent s).1.Ranged G := by
  unfold State.aQueryBody
  split <;> exact h

theorem aCountersBody (h : s.Ranged G) (agent clear : Word) : (State.aCountersBody agent clear s).1.Ranged G := by
  unfold State.aCountersBody
  split
  case h_1 => exact h
  case h_2 a _ =>
  dsimp only
  split
  case isFalse => exact h
  case isTrue =>
  refine .setAgent h ?_
  exact
    { h.agent a with
      counters := fun _ => ⟨Nat.zero_le _, Nat.zero_le _, Nat.zero_le _, Nat.zero_le _, Nat.zero_le _⟩ }

theorem wExtendBody (h : s.Ranged G) (agent seconds : Word) : (State.wExtendBody agent seconds s).1.Ranged G := by
  unfold State.wExtendBody
  split
  case h_1 => exact h
  case h_2 a _ =>
  dsimp only
  split
  case isFalse => exact h
  case isTrue =>
  refine .setAgent h ?_
  exact
    { h.agent a with
      wrap := fun asked => by
        obtain ⟨within, limit⟩ := (h.agent a).wrap asked
        refine ⟨?_, limit⟩
        unfold Agent.extended
        dsimp only
        split
        · exact within
        · exact (Nat.min_le_left _ _).trans (Nat.min_le_right _ _) }

theorem wEndBody (h : s.Ranged G) (agent : Word) : (State.wEndBody agent s).1.Ranged G := by
  unfold State.wEndBody
  split
  case h_1 => exact h
  case h_2 =>
  dsimp only
  split
  · exact h.endWrap.drain
  · exact h

/-! ### Clips, programmes and setup -/

theorem sMapBody (h : s.Ranged G) (table : List Word) : (State.sMapBody table s).1.Ranged G := by
  unfold State.sMapBody
  dsimp only
  split
  case isTrue => exact h
  case isFalse valid =>
  split
  case h_1 => exact h
  case h_2 =>
  refine .setStore h fun asked => (h.store asked).of_clips rfl fun i => ?_
  rw [Vector.getElem_ofFn]
  exact getD_le_of_boundsValid (by simpa using valid) _

theorem sAttrBody (h : s.Ranged G) (segment setting : Word) : (State.sAttrBody segment setting s).1.Ranged G := by
  unfold State.sAttrBody
  split
  case h_2 => exact h
  case h_1 k a _ _ =>
  have written : (s.setStore { s.store with attrs := s.store.attrs.set k.val a }).Ranged G :=
    h.setStore fun asked => ⟨(h.store asked).clips, (h.store asked).bounds⟩
  unfold State.setAttr
  dsimp only
  split
  · exact written.setTreatment fun asked => (h.treatment asked).silence k
  · exact written

theorem setClip (h : s.Ranged G) {c : ClipId} {e : Option ClipEntry} (valid : ∀ x, e = some x → x.InRange) :
    (s.setClip c e).Ranged G := by
  refine .setStore h fun asked => ⟨fun j x defined => ?_, (h.store asked).bounds⟩
  simp only [ClipStore.clip, Vector.getElem_set] at defined
  split at defined
  · exact valid x defined
  · exact (h.store asked).clips j x defined

theorem clipDefineBody (h : s.Ranged G) (clip segment start length : Word) :
    (State.clipDefineBody clip segment start length s).1.Ranged G := by
  unfold State.clipDefineBody
  split
  case h_1 => exact h.setClip nofun
  case h_3 => exact h
  case h_2 =>
  split
  case isTrue => exact h
  case isFalse valid =>
  refine .setClip h fun x e => Option.some.inj e ▸ ?_
  simp only [Config.storeBytes, not_or, Nat.not_le] at valid
  exact ⟨valid.1, Nat.le_min.mpr ⟨Nat.pos_of_ne_zero valid.2, by decide⟩, Nat.min_le_right _ _⟩

theorem progDefineBody (h : s.Ranged G) (programme enable : Word) (clips : List Word) :
    (State.progDefineBody programme enable clips s).1.Ranged G := by
  unfold State.progDefineBody
  split
  case h_2 => exact h
  case h_1 p l _ list =>
  have short := clipsOf_length_le list
  refine .setTreatment h fun asked => ⟨fun j => ?_, fun j => ?_, (h.treatment asked).pool⟩
  · dsimp only
    rw [Vector.getElem_set]
    split
    · exact short
    · exact (h.treatment asked).programmes j
  · dsimp only
    rw [Vector.getElem_set]
    split
    · exact (h.store asked).seekBroadcast short (Nat.zero_le _)
    · exact (h.treatment asked).broadcast j

theorem speechDefineBody (h : s.Ranged G) (entries : List Word) : (State.speechDefineBody entries s).1.Ranged G := by
  unfold State.speechDefineBody
  split
  · exact h.setTreatment fun asked => (h.treatment asked).of_same rfl rfl rfl
  · exact h

theorem setupBody (h : s.Ranged G) (area ring count enables : Word) :
    (State.setupBody area ring count enables s).1.Ranged G := by
  unfold State.setupBody
  split
  · exact h
  · exact h.setPort.setNotices

end State.Ranged
end
end Sys2Proof.Machine
end

section
/-! PROOFS. O52: every command keeps the ranges of the fields (Tables 1-1, 2-1, 3-1, 5-1, 7-1, 8-1 and 9-2). -/

namespace Sys2Proof.Machine

section
variable {G : RangeLaws} {s : State}

/-! ### Power-on and reset -/

theorem TimeBase.reset_inRange : TimeBase.reset.InRange :=
  ⟨Nat.zero_le _, by decide, nofun, fun c => c.elim nofun fun runs => absurd rfl runs⟩

theorem ClipStore.reset_inRange : ClipStore.reset.InRange where
  clips c e defined := by simp [ClipStore.clip, ClipStore.reset] at defined
  bounds i := by simp [ClipStore.reset]

theorem Treatment.reset_inRange : Treatment.reset.InRange where
  programmes p := by simp [Treatment.reset]
  broadcast p := by
    simp only [Treatment.reset, Vector.getElem_replicate]
    exact Player.idleAt_inRange (Nat.zero_le _)
  pool p := by
    simp only [Treatment.reset, Vector.getElem_replicate]
    exact PoolPlayer.idle_inRange

theorem State.poweredOn_ranged (s : State) : s.poweredOn.Ranged G where
  joinSeq _ := Nat.zero_le _
  queue q := by
    rw [show s.poweredOn.queue q = .reset by simp [State.poweredOn, State.reset, State.queue]]
    exact Queue.reset_ranged q
  call k := by
    rw [show s.poweredOn.call k = .free 0 by simp [State.poweredOn, State.reset, State.call]]
    exact Call.free_ranged 0 _
  agent a := by
    rw [show s.poweredOn.agent a = .reset 0 by simp [State.poweredOn, State.reset, State.agent]]
    exact Agent.reset_ranged 0
  store _ := ClipStore.reset_inRange.of_clips rfl ClipStore.reset_inRange.bounds
  treatment _ := Treatment.reset_inRange
  time _ := TimeBase.reset_inRange

namespace State.Ranged

/-- A port reset keeps the library and the time base, and resets every other block (R183). -/
theorem resetBlocks (h : s.Ranged G) : s.resetBlocks.Ranged G where
  joinSeq _ := Nat.zero_le _
  queue q := by
    rw [show s.resetBlocks.queue q = .reset by simp [State.resetBlocks, State.queue]]
    exact Queue.reset_ranged q
  call k := by
    rw [show s.resetBlocks.call k = (s.call k).portReset by simp [State.resetBlocks, State.call]]
    unfold Call.portReset
    split <;> exact Call.free_ranged _ _
  agent a := by
    rw [show s.resetBlocks.agent a = .reset s.now by simp [State.resetBlocks, State.agent]]
    exact Agent.reset_ranged s.now
  store asked := (h.store asked).of_clips rfl (h.store asked).bounds
  treatment asked :=
    { h.treatment asked with
      pool := fun p => by
        simp only [State.resetBlocks, Vector.getElem_replicate]
        exact PoolPlayer.idle_inRange }
  time := h.time

/-! ### The port and the load engine -/

theorem setLoad (h : s.Ranged G) {memory : List Host.Cell} {load : Option Load} :
    (s.setStore { s.store with memory := memory, load := load }).Ranged G :=
  h.setStore fun asked => (h.store asked).of_clips rfl (h.store asked).bounds

theorem writeBus (h : s.Ranged G) {ws : List BusWrite} : (s.writeBus ws).Ranged G := h.same rfl

theorem noteLoadRead (h : s.Ranged G) {address : Nat} : (s.noteLoadRead address).Ranged G := h.same rfl

theorem complete (h : s.Ranged G) {cls : ReplyClass} {reason : Reason} : (s.complete cls reason).Ranged G := h.setPort

theorem endLoad (h : s.Ranged G) (a : Answer) (tag : Tag) : (s.endLoad a tag).Ranged G := h.setLoad.toReply _

theorem execFillComplete (h : s.Ranged G) : LeadsTo (State.Ranged G) (execFillComplete s) := by
  unfold Machine.execFillComplete
  split
  · exact .next h.setLoad.setPort
  · exact .next h

theorem execReqaddrWrite (h : s.Ranged G) (address : Word) :
    LeadsTo (State.Ranged G) (execReqaddrWrite address s) := by
  unfold Machine.execReqaddrWrite
  split
  · dsimp only
    split
    · exact .next h.setPort
    · exact .next (h.setPort.toReply _)
  · exact .next h.setPort

theorem execFetchRefused (h : s.Ranged G) (word0 : Word) (rest : List Word) :
    LeadsTo (State.Ranged G) (execFetchRefused word0 rest s) := by
  unfold Machine.execFetchRefused
  split
  · split
    · exact .next (h.toReply _)
    · exact .next h
  · exact .next h

theorem execFetchBusFault (h : s.Ranged G) (index : Nat) (word0 : Word) :
    LeadsTo (State.Ranged G) (execFetchBusFault index word0 s) := by
  unfold Machine.execFetchBusFault
  split
  · split
    · exact .next (h.toReply _)
    · split
      · exact .next (h.toReply _)
      · exact .next h
  · exact .next h

theorem execReplyComplete (h : s.Ranged G) : LeadsTo (State.Ranged G) (execReplyComplete s) := by
  unfold Machine.execReplyComplete
  split
  · exact .next h.writeBus.complete
  · exact .next h

theorem execReplyWriteFault (h : s.Ranged G) (written : Nat) :
    LeadsTo (State.Ranged G) (execReplyWriteFault written s) := by
  unfold Machine.execReplyWriteFault
  split
  · exact .next h.writeBus.complete
  · exact .next h

theorem execTakenIndexWrite (h : s.Ranged G) (value : Word) :
    LeadsTo (State.Ranged G) (execTakenIndexWrite value s) := by
  unfold Machine.execTakenIndexWrite
  dsimp only
  split
  case isFalse => exact .next h
  case isTrue =>
  refine .next ?_
  split
  · exact h.setNotices.drain
  · exact h.setNotices

theorem execUndecodedWrite (h : s.Ranged G) (offset value : Word) :
    LeadsTo (State.Ranged G) (execUndecodedWrite offset value s) := by
  unfold Machine.execUndecodedWrite
  split
  · exact .fault _
  · exact .next h

theorem execSLoad (h : s.Ranged G) (tag : Tag) (segment offset count source : Word) :
    LeadsTo (State.Ranged G) (execSLoad tag segment offset count source s) := by
  unfold Machine.execSLoad fetched
  dsimp only
  split
  case isFalse => exact .next h
  case isTrue =>
  split
  case h_1 => exact .next (h.toReply _)
  case h_2 =>
  split
  case h_1 => exact .next (h.toReply _)
  case h_2 =>
  split
  · exact .next (h.toReply _)
  · exact .next h.setLoad.setPort

theorem execLoadGroupWrite (h : s.Ranged G) (b0 b1 b2 b3 : Byte) :
    LeadsTo (State.Ranged G) (execLoadGroupWrite b0 b1 b2 b3 s) := by
  unfold Machine.execLoadGroupWrite
  split
  · split
    · exact .next h.noteLoadRead.setLoad
    · exact .next h
  · exact .next h

theorem execLoadComplete (h : s.Ranged G) : LeadsTo (State.Ranged G) (execLoadComplete s) := by
  unfold Machine.execLoadComplete
  split
  · split
    · exact .next (h.endLoad _ _)
    · exact .next h
  · exact .next h

theorem execLoadBusFault (h : s.Ranged G) : LeadsTo (State.Ranged G) (execLoadBusFault s) := by
  unfold Machine.execLoadBusFault
  split
  · split
    · exact .next (h.noteLoadRead.endLoad _ _)
    · exact .next h
  · exact .next h

/-! ### The highway -/

theorem execFrameSync (h : s.Ranged G) (position : Nat) :
    LeadsTo (State.Ranged G) (execFrameSync position s) := by
  have sent := h.settleSecond.sendFrame
  have base : s.settleSecond.sendFrame.timeBase = s.timeBase.settle := State.sendFrame_timeBase _
  unfold Machine.execFrameSync
  dsimp only
  split
  case h_2 => exact .next h
  case h_3 => exact .next h
  case h_1 counts =>
  refine .next (.setTimeBase sent ?_ fun asked => ?_)
  · exact le_rfl
  · rw [base]
    exact { (h.time asked).counted (syncPeriods_le counts) with sync := fun _ => nofun }

theorem execOscillatorPeriod (h : s.Ranged G) : LeadsTo (State.Ranged G) (execOscillatorPeriod s) := by
  unfold Machine.execOscillatorPeriod
  split
  case h_1 =>
    refine .next (.setTimeBase h.settleSecond ?_ fun asked => ?_)
    · exact le_rfl
    · exact (h.time asked).counted (Nat.le_add_left 1 15)
  case h_2 => exact .next h

theorem execSecondBoundary (h : s.Ranged G) : LeadsTo (State.Ranged G) (execSecondBoundary s) := by
  unfold Machine.execSecondBoundary
  split
  · exact .next (h.setTimeBase s.timeBase.secondBoundary_time fun asked => (h.time asked).secondBoundary)
  · exact .next h

theorem execHoldoverEntry (h : s.Ranged G) : LeadsTo (State.Ranged G) (execHoldoverEntry s) := by
  unfold Machine.execHoldoverEntry
  split
  case h_1 =>
    refine .next (.setPort (.setTimeBase h.settleSecond ?_ fun asked => ?_))
    · exact le_rfl
    · exact
        { (h.time asked).counted (Nat.le_add_left 15 1) with
          run := nofun, sync := fun c => c.elim nofun fun runs => absurd rfl runs }
  case h_2 => exact .next h

/-- A frame sync in HOLDOVER leaves a last sync, and a regular run of fifteen at most (R169). -/
theorem syncSeen (h : s.Ranged G) {run : Option Nat} {position : Nat} (short : ∀ n, run = some n → n ≤ 15) :
    (s.setTimeBase { s.timeBase with run := run, lastSync := some position }).Ranged G :=
  h.setTimeBase le_rfl fun asked => { h.time asked with run := short, sync := fun _ => nofun }

theorem execHoldoverFrameSync (h : s.Ranged G) (position : Nat) :
    LeadsTo (State.Ranged G) (execHoldoverFrameSync position s) := by
  have restarted : (s.setTimeBase { s.timeBase with run := some 0, lastSync := some position }).Ranged G :=
    h.syncSeen fun _ e => Option.some.inj e ▸ Nat.zero_le _
  unfold Machine.execHoldoverFrameSync
  dsimp only
  split
  case h_2 => exact .next h
  case h_1 =>
  split
  case h_2 => exact .next restarted
  case h_1 =>
  split
  case isFalse => exact .next restarted
  case isTrue =>
  split
  case isTrue => exact .next h.enterLocked
  case isFalse more =>
    exact .next (h.syncSeen fun _ e => Option.some.inj e ▸ Nat.le_of_lt_succ (Nat.lt_of_not_le more))

theorem execRunTimeout (h : s.Ranged G) : LeadsTo (State.Ranged G) (execRunTimeout s) := by
  unfold Machine.execRunTimeout
  split
  case h_2 => exact .next h
  case h_1 holdover =>
  refine .next (.setTimeBase h ?_ fun asked => ?_)
  · exact le_rfl
  · exact
      { h.time asked with
        run := nofun
        sync := fun c => c.elim (fun locked => nomatch holdover.symm.trans locked) fun runs => absurd rfl runs }

/-! ### The expiries -/

theorem execOfferExpiry (h : s.Ranged G) (slot : CallId) : LeadsTo (State.Ranged G) (execOfferExpiry slot s) := by
  unfold Machine.execOfferExpiry
  dsimp only
  split
  case h_2 => exact .next h
  case h_1 =>
  split
  · exact .next h.releaseAgent.withdraw.settleWithdrawn.drain
  · exact .next h

theorem execOverflowExpiry (h : s.Ranged G) (slot : CallId) :
    LeadsTo (State.Ranged G) (execOverflowExpiry slot s) := by
  unfold Machine.execOverflowExpiry
  split
  case isFalse => exact .next h
  case isTrue =>
  split
  · exact .next h.overflowAttempt.drain
  · refine .next (.setCall h ?_)
    exact { h.call slot with }

theorem execWrapExpiry (h : s.Ranged G) (agent : AgentId) : LeadsTo (State.Ranged G) (execWrapExpiry agent s) := by
  unfold Machine.execWrapExpiry
  split
  · exact .next h.endWrap.drain
  · exact .next h

theorem execAnnouncementDue (h : s.Ranged G) (slot : CallId) :
    LeadsTo (State.Ranged G) (execAnnouncementDue slot s) := by
  unfold Machine.execAnnouncementDue
  split
  case h_2 => exact .next h
  case h_1 =>
  split
  · exact .next h.announce
  · exact .next h

end State.Ranged

/-! ### Every command -/

/-- Every command keeps the ranges, as far as they are asked; a Q_COUNTERS that clears asks for lists of distinct
calls. -/
theorem exec_ranged (h : s.Ranged G) (distinct : G.counters → ∀ q, (s.queue q).waiting.Nodup) (c : Instr) :
    LeadsTo (State.Ranged G) (exec c s) := by
  cases c with
  | powerOn => exact .next s.poweredOn_ranged
  | fillComplete => exact h.execFillComplete
  | portReset value replyWords => exact .next h.writeBus.resetBlocks
  | reqaddrWrite address => exact h.execReqaddrWrite address
  | fetchRefused word0 rest => exact h.execFetchRefused word0 rest
  | fetchBusFault index word0 => exact h.execFetchBusFault index word0
  | replyComplete => exact h.execReplyComplete
  | replyWriteFault written => exact h.execReplyWriteFault written
  | takenIndexWrite value => exact h.execTakenIndexWrite value
  | causeClear value => exact .next h.setPort
  | undecodedWrite offset value => exact h.execUndecodedWrite offset value
  | setup => exact h.takeRequest (h.setupBody _ _ _ _)
  | qDefine => exact h.takeRequest (h.qDefineBody _)
  | qMode => exact h.takeRequest (h.qModeBody _ _)
  | qQuery => exact h.takeRequest (h.qQueryBody _)
  | qList => exact h.takeRequest (h.qListBody _ _ _ _)
  | qCounters => exact h.takeRequest (h.qCountersBody distinct _ _)
  | cArrive => exact h.takeRequest (h.cArriveBody _ _ _)
  | cAnswer => exact h.takeRequest (h.cAnswerBody _ _)
  | cEnd => exact h.takeRequest (h.cEndBody _)
  | cMove => exact h.takeRequest (h.cMoveBody _ _)
  | cClass => exact h.takeRequest (h.cClassBody _ _)
  | cQuery => exact h.takeRequest (h.cQueryBody _)
  | aLogin => exact h.takeRequest (h.aLoginBody _ _ _ _ _)
  | aLogout => exact h.takeRequest (h.aLogoutBody _)
  | aSet => exact h.takeRequest (h.aSetBody _ _ _ _)
  | aSkills => exact h.takeRequest (h.aSkillsBody _ _)
  | aQuery => exact h.takeRequest (h.aQueryBody _)
  | aCounters => exact h.takeRequest (h.aCountersBody _ _)
  | wExtend => exact h.takeRequest (h.wExtendBody _ _)
  | wEnd => exact h.takeRequest (h.wEndBody _)
  | sMap => exact h.takeRequest (h.sMapBody _)
  | sAttr => exact h.takeRequest (h.sAttrBody _ _)
  | sLoad tag segment offset count source => exact h.execSLoad tag segment offset count source
  | clipDefine => exact h.takeRequest (h.clipDefineBody _ _ _ _)
  | progDefine => exact h.takeRequest (h.progDefineBody _ _ _)
  | speechDefine => exact h.takeRequest (h.speechDefineBody _)
  | loadGroupWrite b0 b1 b2 b3 => exact h.execLoadGroupWrite b0 b1 b2 b3
  | loadComplete => exact h.execLoadComplete
  | loadBusFault => exact h.execLoadBusFault
  | frameSync position => exact h.execFrameSync position
  | oscillatorPeriod => exact h.execOscillatorPeriod
  | secondBoundary => exact h.execSecondBoundary
  | holdoverEntry => exact h.execHoldoverEntry
  | holdoverFrameSync position => exact h.execHoldoverFrameSync position
  | runTimeout => exact h.execRunTimeout
  | offerExpiry slot => exact h.execOfferExpiry slot
  | overflowExpiry slot => exact h.execOverflowExpiry slot
  | wrapExpiry agent => exact h.execWrapExpiry agent
  | announcementDue slot => exact h.execAnnouncementDue slot

theorem step_ranged (h : s.Ranged G) (distinct : G.counters → ∀ q, (s.queue q).waiting.Nodup) :
    LeadsTo (State.Ranged G) (step s) := by
  unfold step
  split
  case h_1 => exact .next h
  case h_2 c rest _ =>
    have given : (s.withPending rest).Ranged G := h.same rfl
    exact exec_ranged given distinct c

end

/-- Settles O52: every step keeps each of the six families of ranges where it holds, the counters' with the agreement of
the records and the library's with the law of the store. -/
theorem fieldRangesAreKept : Obligations.FieldRangesAreKept := by
  intro s s' run
  have kept : s'.Ranged s.laws := step_ranged s.ranged_laws (fun asked => asked.1.listNodup) s' run
  exact ⟨kept.paramsInRange, kept.recordsInRange, fun agree counters => kept.countersInRange ⟨agree, counters⟩,
    kept.stampsInRange, fun law library => kept.libraryInRange ⟨law, library⟩, kept.timeInRange⟩

end Sys2Proof.Machine
end

section
/-! PROOFS. O18 and O20: Q_QUERY answers the figures of its queue, and Q_COUNTERS its counters before any clear (R110,
R111, R113, R114, R118, R119, R121). -/

namespace Sys2Proof.Machine

/-! ### The figures of a queue -/

/-- The raw wait of the head of a queue's list (R27). -/
theorem State.headWait_eq (s : State) (q : QueueId) : s.headWait q =
    match (s.queue q).waiting with
    | [] => 0
    | k :: _ => min (s.now - (s.call k).entry) 65535 := by
  unfold State.headWait
  cases (s.queue q).waiting <;> rfl

/-- The states the staffed count takes, one by one (R118). -/
theorem AgentState.atWork_eq (g : AgentState) :
    g.atWork = (g == .READY || g == .OFFERED || g == .TALKING || g == .WRAP) := by
  cases g <;> rfl

theorem State.starving_word (s : State) (q : QueueId) : flagWord (s.starving q) =
    if (s.queue q).waiting ≠ [] ∧ (s.queue q).params.guard ≠ 0 ∧ (s.queue q).params.guard ≤ s.headWait q then 1
    else 0 := by
  simp only [flagWord, State.starving, Bool.and_eq_true, bne_iff_ne, decide_eq_true_eq, and_assoc]

theorem Queue.liftFlag_word (r : Queue) : flagWord r.liftFlag =
    if 20 ≤ r.counters.counted ∧ r.counters.serviceLevel < r.params.serviceGoal then 1 else 0 := by
  simp only [flagWord, Queue.liftFlag, Bool.and_eq_true, decide_eq_true_eq]

/-- Settles O18: the reply is the list of figures, each read from the queue's record, its calls and the agents. -/
theorem qQueryReturnsTheFigures : Obligations.QQueryReturnsTheFigures := by
  intro tag q s hs defined r d sl lift head starving staffed
  have head_eq : s.headWait q = head := s.headWait_eq q
  have staffed_eq : s.staffed q = staffed := by
    simp only [State.staffed, AgentState.atWork_eq]
    rfl
  refine hs.answers rfl ?_
  simp only [State.qQueryBody, idOf_word (show 64 ≤ 4294967296 by decide), defined, if_true, State.queueFigures,
    State.starving_word, Queue.liftFlag_word, head_eq, staffed_eq]
  rfl

/-! ### The counters -/

/-- A request that writes its queue's counters goes to REPLYING with nothing else changed. -/
theorem State.Taking.setCounters_replies {s : State} (hs : s.Taking) (tag : Tag) (q : QueueId) (c : QueueCounters)
    (cls : ReplyClass) (reason : Reason) (payload : List Word) (code : BitVec 8) :
    (s.setCounters q c).toReply (Answer.reply ⟨cls, reason, 0, payload, []⟩ code tag) =
      { s.replying cls reason code tag payload with
        queues := s.queues.set q.val { s.queue q with counters := c } } :=
  State.toReply_present _ _ hs.2

/-- Settles O20: the payload is taken from the record as it stood, and a clear writes its counters alone. -/
theorem qCountersReturnsAndClears : Obligations.QCountersReturnsAndClears := by
  intro tag queue clear s hs
  refine ⟨fun range => hs.answers rfl ?_, ?_⟩
  · simp only [State.qCountersBody, idOf_eq_none.mpr range]
    rfl
  · rintro q rfl c present
    have named : idOf 64 (word q.val) = some q := idOf_word (by decide) q
    refine ⟨fun undefined => hs.answers rfl ?_, fun defined => ?_⟩
    · simp only [State.qCountersBody, named, undefined]
      rfl
    · refine (hs.takes _ rfl).trans (congrArg _ ?_)
      simp only [State.qCountersBody, named, if_pos defined, flagOf]
      by_cases keeps : clear = 0
      · simp only [keeps, bne_self_eq_false, Bool.false_eq_true, if_false, if_true]
        exact s.toReply_replying .DONE .NONE _ 0x14 tag hs.2
      · simp only [bne_iff_ne.mpr keeps, keeps, if_true, if_false]
        exact hs.setCounters_replies tag q _ .DONE .NONE _ 0x14

end Sys2Proof.Machine
end

section
/-! PROOFS. The account of a queue: its AHT, its counters and its calls present, the entries that commands make in it,
and what no entry breaks (R14, R82, R100, R108 to R111, R116, R117). -/

namespace Sys2Proof.Machine

/-! ### The account and its entries -/

/-- What the statistics unit keeps of one queue, with the number of its calls in QUEUED or OFFERED. -/
structure Account where
  aht : Nat
  counters : QueueCounters
  present : Nat

/-- One entry in the account of a queue. Only where `P` fails, which is where the records do not agree, may the calls
present go astray; and only then does a clear not find them all. -/
inductive Account.Entry (P : Prop) : Account → Account → Prop
  | joined (a : Account) : Entry P a { a with counters := a.counters.addEntered, present := a.present + 1 }
  | answered (aht : Nat) (c : QueueCounters) (n : Nat) (inTarget : Bool) (wait : Nat) :
      Entry P ⟨aht, c, n + 1⟩ ⟨aht, c.addAnswered inTarget wait, n⟩
  | abandoned (aht : Nat) (c : QueueCounters) (n : Nat) (short : Bool) :
      Entry P ⟨aht, c, n + 1⟩ ⟨aht, c.addAbandoned short, n⟩
  | movedOut (aht : Nat) (c : QueueCounters) (n : Nat) (overflow : Bool) :
      Entry P ⟨aht, c, n + 1⟩ ⟨aht, c.addMovedOut overflow, n⟩
  | diverted (a : Account) (n : Nat) : Entry P a { a with counters := { a.counters with diverted := n } }
  | wrapEnded (a : Account) (t w : Nat) :
      Entry P a { a with aht := ahtUpdate a.aht t w, counters := a.counters.addHandled t w }
  | seeded (a : Account) {seconds : Nat} (range : 1 ≤ seconds ∧ seconds ≤ 3600) :
      Entry P a { a with aht := 16 * seconds }
  | cleared (a : Account) {n : Nat} (all : P → n = a.present) :
      Entry P a { a with counters := { QueueCounters.zero with entered := n } }
  | reset (a : Account) : Entry P a ⟨960, .zero, 0⟩
  | astray (a : Account) (n : Nat) (fails : ¬ P) : Entry P a { a with present := n }

/-! ### The AHT -/

/-- R116 between whole numbers: an eighth of the way toward the target, truncated toward the old value. -/
theorem ahtUpdate_cases (aht t w : Nat) :
    let h := min (max (t + w) 1) 3600
    (aht ≤ 16 * h ∧ ahtUpdate aht t w = aht + (16 * h - aht) / 8) ∨
      (16 * h ≤ aht ∧ ahtUpdate aht t w = aht - (aht - 16 * h) / 8) := by
  intro h
  have updated : ahtUpdate aht t w = ((aht : Int) + ((16 * h : Nat) - (aht : Int)).tdiv 8).toNat := rfl
  generalize 16 * h = target at updated
  rcases Nat.le_total aht target with rises | falls
  · refine .inl ⟨rises, ?_⟩
    rw [updated, Int.tdiv_eq_ediv_of_nonneg (by omega)]
    omega
  · refine .inr ⟨falls, ?_⟩
    rw [updated, ← Int.neg_sub, Int.neg_tdiv, Int.tdiv_eq_ediv_of_nonneg (by omega)]
    omega

/-- The range of an AHT (R117). -/
def AhtRange (aht : Nat) : Prop := 16 ≤ aht ∧ aht ≤ 57600

theorem ahtUpdate_range {aht : Nat} (h : AhtRange aht) (t w : Nat) : AhtRange (ahtUpdate aht t w) := by
  have cases := ahtUpdate_cases aht t w
  unfold AhtRange at *
  omega

/-- The AHT of an account stays in its range: entries leave it, seed it, reset it or update it (R14, R116, R117). -/
theorem Account.Entry.ahtRange {P : Prop} {a b : Account} (e : Entry P a b) (h : AhtRange a.aht) : AhtRange b.aht := by
  cases e with
  | wrapEnded _ t w => exact ahtUpdate_range h t w
  | seeded _ range => exact ⟨by dsimp only; omega, by dsimp only; omega⟩
  | reset => exact ⟨by decide, by decide⟩
  | _ => exact h

/-! ### The counters -/

/-- The orderings of R108 and R109 for one queue. -/
structure QueueCounters.Ordered (c : QueueCounters) : Prop where
  answered : c.answeredInTarget ≤ c.answered ∧ c.answered ≤ Config.maxU32
  abandoned : c.abandonedShort ≤ c.abandoned ∧ c.abandoned ≤ Config.maxU32
  movedOut : c.overflowOut ≤ c.movedOut ∧ c.movedOut ≤ Config.maxU32

theorem State.countersOrdered_iff (s : State) : s.CountersOrdered ↔ ∀ q, (s.queue q).counters.Ordered :=
  ⟨fun h q => ⟨(h q).1, (h q).2.1, (h q).2.2⟩, fun h q => ⟨(h q).answered, (h q).abandoned, (h q).movedOut⟩⟩

/-- A part and its total counted together, or the total alone, keep their order where both are saturated. -/
theorem satAdd_ordered {part total : Nat} (h : part ≤ total ∧ total ≤ Config.maxU32) (both : Bool) :
    (if both then satAdd part 1 else part) ≤ satAdd total 1 ∧ satAdd total 1 ≤ Config.maxU32 := by
  unfold satAdd
  split <;> omega

theorem Account.Entry.ordered {P : Prop} {a b : Account} (e : Entry P a b) (h : a.counters.Ordered) :
    b.counters.Ordered := by
  cases e with
  | answered _ _ _ inTarget wait => exact { h with answered := satAdd_ordered h.answered inTarget }
  | abandoned _ _ _ short => exact { h with abandoned := satAdd_ordered h.abandoned short }
  | movedOut _ _ _ overflow => exact { h with movedOut := satAdd_ordered h.movedOut overflow }
  | cleared | reset =>
    have none : 0 ≤ 0 ∧ 0 ≤ Config.maxU32 := ⟨le_rfl, Nat.zero_le _⟩
    exact ⟨none, none, none⟩
  | _ => exact { h with }

/-- The balance of R109, while no counter of it has saturated. -/
def Account.Balanced (a : Account) : Prop :=
  a.counters.unsaturated →
    a.counters.entered = a.counters.answered + a.counters.abandoned + a.counters.movedOut + a.present

/-- A counter that is unsaturated after 1 was added held 1 less. -/
theorem satAdd_one_lt {n : Nat} (h : satAdd n 1 < Config.maxU32) : n < Config.maxU32 ∧ satAdd n 1 = n + 1 := by
  unfold satAdd at *
  omega

/-- Where the records agree every entry keeps the balance: a call that joins is entered, and one that leaves is
answered, abandoned or moved out. -/
theorem Account.Entry.balanced {P : Prop} {a b : Account} (e : Entry P a b) (agree : P) (h : a.Balanced) :
    b.Balanced := by
  cases e with
  | joined =>
    rintro ⟨entered, rest⟩
    obtain ⟨below, exact⟩ := satAdd_one_lt entered
    have before := h ⟨below, rest⟩
    simp only [QueueCounters.addEntered] at *
    omega
  | answered =>
    rintro ⟨entered, answered, rest⟩
    obtain ⟨below, exact⟩ := satAdd_one_lt answered
    have before := h ⟨entered, below, rest⟩
    simp only [QueueCounters.addAnswered] at *
    omega
  | abandoned =>
    rintro ⟨entered, answered, abandoned, movedOut⟩
    obtain ⟨below, exact⟩ := satAdd_one_lt abandoned
    have before := h ⟨entered, answered, below, movedOut⟩
    simp only [QueueCounters.addAbandoned] at *
    omega
  | movedOut =>
    rintro ⟨entered, answered, abandoned, movedOut⟩
    obtain ⟨below, exact⟩ := satAdd_one_lt movedOut
    have before := h ⟨entered, answered, abandoned, below⟩
    simp only [QueueCounters.addMovedOut] at *
    omega
  | diverted | wrapEnded | seeded => exact h
  | cleared _ all =>
    intro _
    simp [QueueCounters.zero, all agree]
  | reset => exact fun _ => rfl
  | astray _ _ fails => exact absurd agree fails

/-- What every entry keeps, a run of entries keeps. -/
theorem Account.kept {P : Prop} {Q : Account → Prop} (entry : ∀ {a b}, Account.Entry P a b → Q a → Q b) {a b : Account}
    (run : Relation.ReflTransGen (Account.Entry P) a b) (h : Q a) : Q b := by
  induction run with
  | refl => exact h
  | tail _ e ih => exact entry e ih

end Sys2Proof.Machine
end

section
/-! PROOFS. The calls present in a queue, counted over the call table while a call may stand aside, and the books of a
state: each account reached from its opening by entries (R7, R24, R109). -/

namespace Sys2Proof.Machine

/-! ### The calls present -/

/-- Two records of a call in the same state and of the same queue. -/
structure Call.SameStanding (c d : Call) : Prop where
  state : d.state = c.state
  queue : d.queue = c.queue

/-- A call in QUEUED or OFFERED of queue `q` (R7). -/
@[reducible] def Call.PresentIn (c : Call) (q : QueueId) : Prop :=
  (c.state = .QUEUED ∨ c.state = .OFFERED) ∧ c.queue = q

/-- A call in none of the queues (R7). -/
def Call.Absent (c : Call) : Prop := c.state ≠ .QUEUED ∧ c.state ≠ .OFFERED

theorem Call.Absent.not_presentIn {c : Call} (h : c.Absent) (q : QueueId) : ¬ c.PresentIn q :=
  fun p => p.1.elim h.1 h.2

/-- The number of calls present in a queue, the calls `K` left out. -/
@[irreducible] def State.present (s : State) (K : List CallId) (q : QueueId) : Nat :=
  (Finset.univ.filter fun k : CallId => k ∉ K ∧ (s.call k).PresentIn q).card

/-- The account of a queue, the calls `K` left out. -/
def State.account (s : State) (K : List CallId) (q : QueueId) : Account :=
  ⟨(s.queue q).aht, (s.queue q).counters, s.present K q⟩

section
variable {s t : State} {K L : List CallId} {q : QueueId} {k : CallId}

theorem State.account_eq {r : Queue} {n : Nat} (queue : s.queue q = r) (present : s.present K q = n) :
    s.account K q = ⟨r.aht, r.counters, n⟩ := by
  rw [State.account, queue, present]

theorem State.present_congr (h : ∀ j, j ∉ L ∧ (t.call j).PresentIn q ↔ j ∉ K ∧ (s.call j).PresentIn q) :
    t.present L q = s.present K q := by
  unfold State.present
  simp only [h]

theorem State.present_eq_zero (h : ∀ k, ¬ (s.call k).PresentIn q) : s.present K q = 0 := by
  unfold State.present
  rw [Finset.card_eq_zero, Finset.filter_eq_empty_iff]
  exact fun k _ counted => h k counted.2

/-- A call that stands aside was counted in its queue. -/
theorem State.present_aside (h : (s.call k).PresentIn q) : s.present [] q = s.present [k] q + 1 := by
  have erased : (Finset.univ.filter fun j : CallId => j ∉ [k] ∧ (s.call j).PresentIn q) =
      (Finset.univ.filter fun j : CallId => j ∉ [] ∧ (s.call j).PresentIn q).erase k := by
    ext j
    simp
  unfold State.present
  rw [erased, Finset.card_erase_add_one (by simpa using h)]

/-- And in no other. -/
theorem State.present_aside_other (h : ¬ (s.call k).PresentIn q) : s.present [k] q = s.present [] q := by
  refine State.present_congr fun j => ?_
  by_cases hj : j = k
  · simp [hj, h]
  · simp [hj]

/-- With the records in agreement the calls present are the waiting list and the calls under offer (R24). -/
theorem State.RecordsAgree.occupancy_eq (h : s.RecordsAgree) (q : QueueId) : s.occupancy q = s.present [] q := by
  have waiting : s.depth q = (Finset.univ.filter fun j => (s.call j).state = .QUEUED ∧ (s.call j).queue = q).card := by
    rw [State.depth, ← List.toFinset_card_of_nodup (h.listNodup q)]
    exact congrArg Finset.card (Finset.ext fun j => by simp [h.listed q j])
  have offered : s.offeredCount q =
      (Finset.univ.filter fun j => (s.call j).state = .OFFERED ∧ (s.call j).queue = q).card := by
    have calls : s.calls.toList = (List.finRange 2048).map s.call := by
      refine List.ext_getElem (by simp) fun i _ _ => ?_
      simp [State.call]
    rw [State.offeredCount, calls, List.countP_map, List.countP_eq_length_filter,
      ← List.toFinset_card_of_nodup ((List.nodup_finRange 2048).filter _)]
    exact congrArg Finset.card (Finset.ext fun j => by simp)
  rw [State.occupancy, waiting, offered, ← Finset.card_union_of_disjoint, ← Finset.filter_or]
  · unfold State.present
    exact congrArg Finset.card (Finset.ext fun j => by simp [Call.PresentIn, or_and_right])
  · refine Finset.disjoint_filter.mpr fun j _ queued offered => ?_
    rw [queued.1] at offered
    exact nomatch offered.1

end

/-! ### The lists -/

/-- The share of the agreement of the records that offers rest on: each waiting list holds QUEUED calls of its queue
alone, each once (R24). The calls `K`, which stand aside, are in none. -/
structure State.Listed (K : List CallId) (s : State) : Prop where
  nodup : ∀ q, (s.queue q).waiting.Nodup
  queued : ∀ q, ∀ k ∈ (s.queue q).waiting, k ∉ K ∧ (s.call k).state = .QUEUED ∧ (s.call k).queue = q

theorem State.RecordsAgree.lists {s : State} (h : s.RecordsAgree) : s.Listed [] :=
  ⟨h.listNodup, fun q k hk => ⟨List.not_mem_nil, (h.listed q k).mp hk⟩⟩

namespace State.Listed

variable {s t : State} {K : List CallId} {q : QueueId} {k : CallId}

theorem congr (h : s.Listed K) (waiting : ∀ q, (t.queue q).waiting.Perm (s.queue q).waiting)
    (calls : ∀ k ∉ K, (s.call k).SameStanding (t.call k)) : t.Listed K where
  nodup q := (waiting q).nodup_iff.mpr (h.nodup q)
  queued q k hk := by
    obtain ⟨outside, state, own⟩ := h.queued q k ((waiting q).mem_iff.mp hk)
    obtain ⟨state', own'⟩ := calls k outside
    exact ⟨outside, state'.trans state, own'.trans own⟩

/-- A call that is not QUEUED stands in no list. -/
theorem not_mem (h : s.Listed K) (state : (s.call k).state ≠ .QUEUED) (q : QueueId) : k ∉ (s.queue q).waiting :=
  fun m => state (h.queued q k m).2.1

/-- A call taken out of every list stands aside. -/
theorem leave (h : s.Listed []) (waiting : ∀ q, (t.queue q).waiting = (s.queue q).waiting.erase k)
    (calls : ∀ j, j ≠ k → (s.call j).SameStanding (t.call j)) : t.Listed [k] where
  nodup q := waiting q ▸ (h.nodup q).erase k
  queued q j hj := by
    rw [waiting, (h.nodup q).mem_erase_iff] at hj
    obtain ⟨-, state, own⟩ := h.queued q j hj.2
    obtain ⟨state', own'⟩ := calls j hj.1
    exact ⟨by simpa using hj.1, state'.trans state, own'.trans own⟩

/-- A call that stands aside is QUEUED in the list of its queue. -/
theorem enter (h : s.Listed [k]) (self : (t.queue q).waiting.Perm (k :: (s.queue q).waiting))
    (others : ∀ r, r ≠ q → (t.queue r).waiting = (s.queue r).waiting)
    (call : (t.call k).state = .QUEUED ∧ (t.call k).queue = q)
    (calls : ∀ j, j ≠ k → (s.call j).SameStanding (t.call j)) : t.Listed [] := by
  have aside : ∀ r, k ∉ (s.queue r).waiting := fun r m => (h.queued r k m).1 List.mem_cons_self
  have stays : ∀ r, ∀ j ∈ (s.queue r).waiting, j ∉ [] ∧ (t.call j).state = .QUEUED ∧ (t.call j).queue = r := by
    intro r j hj
    obtain ⟨outside, state, own⟩ := h.queued r j hj
    obtain ⟨state', own'⟩ := calls j fun e => outside (by simp [e])
    exact ⟨List.not_mem_nil, state'.trans state, own'.trans own⟩
  refine ⟨fun r => ?_, fun r j hj => ?_⟩
  · by_cases hr : r = q
    · rw [hr]
      exact self.nodup_iff.mpr (List.nodup_cons.mpr ⟨aside q, h.nodup q⟩)
    · rw [others r hr]
      exact h.nodup r
  · by_cases hr : r = q
    · rw [hr, self.mem_iff] at hj
      rcases List.mem_cons.mp hj with rfl | hj
      · exact ⟨List.not_mem_nil, hr ▸ call⟩
      · exact hr ▸ stays q j hj
    · rw [others r hr] at hj
      exact stays r j hj

theorem putBack (h : s.Listed K) : s.Listed [] := ⟨h.nodup, fun q k hk => ⟨List.not_mem_nil, (h.queued q k hk).2⟩⟩

theorem setAside (h : s.Listed []) (state : (s.call k).state ≠ .QUEUED) : s.Listed [k] :=
  ⟨h.nodup, fun q j hj => ⟨fun m => state (List.mem_singleton.mp m ▸ (h.queued q j hj).2.1), (h.queued q j hj).2⟩⟩

end State.Listed

/-! ### The books -/

/-- The books of a state, opened with the accounts `B`: every account is reached from its opening by entries, and with
`P` the lists are as offers ask of them. The calls `K` stand aside. -/
structure State.Booked (P : Prop) (B : QueueId → Account) (K : List CallId) (s : State) : Prop where
  lists : P → s.Listed K
  entries : ∀ q, Relation.ReflTransGen (Account.Entry P) (B q) (s.account K q)

section
variable {P : Prop} {B : QueueId → Account} {K L : List CallId} {s t : State} {q : QueueId} {k : CallId}

namespace State.Booked

/-- One entry, or none, in each account. -/
theorem advance (h : s.Booked P B K) (lists : P → s.Listed K → t.Listed L)
    (entry : ∀ q, t.account L q = s.account K q ∨ Account.Entry P (s.account K q) (t.account L q)) :
    t.Booked P B L where
  lists p := lists p (h.lists p)
  entries q := by
    rcases entry q with same | entry
    · exact same ▸ h.entries q
    · exact (h.entries q).tail entry

/-- Accounts are about the AHT, the counters and the calls present; lists about the calls in them. -/
theorem congr (h : s.Booked P B K) (aht : ∀ q, (t.queue q).aht = (s.queue q).aht)
    (counters : ∀ q, (t.queue q).counters = (s.queue q).counters)
    (waiting : ∀ q, (t.queue q).waiting.Perm (s.queue q).waiting)
    (calls : ∀ k ∉ K, (s.call k).SameStanding (t.call k)) : t.Booked P B K := by
  refine h.advance (fun _ lists => lists.congr waiting calls) fun q => .inl ?_
  have present : t.present K q = s.present K q := State.present_congr fun k => and_congr_right fun hk => by
    rw [Call.PresentIn, (calls k hk).state, (calls k hk).queue, Call.PresentIn]
  rw [State.account, State.account, aht, counters, present]

/-- Nothing of the queues has changed, and of the calls neither state nor queue. -/
theorem same (h : s.Booked P B K) (queue : ∀ q, t.queue q = s.queue q)
    (calls : ∀ k ∉ K, (s.call k).SameStanding (t.call k)) : t.Booked P B K :=
  h.congr (fun q => by rw [queue]) (fun q => by rw [queue]) (fun q => .of_eq (by rw [queue])) calls

/-- The tables of the queues and the calls are the same. -/
theorem of_tables (h : s.Booked P B K) (queues : t.queues = s.queues) (calls : t.calls = s.calls) : t.Booked P B K :=
  h.same (fun q => by unfold State.queue; rw [queues]) fun k _ => by unfold State.call; rw [calls]; exact ⟨rfl, rfl⟩

/-- The record of one queue written, with one entry in its account or none. -/
theorem setQueue (h : s.Booked P B K) {r : Queue} (waiting : r.waiting.Perm (s.queue q).waiting)
    (entry : ⟨r.aht, r.counters, s.present K q⟩ = s.account K q ∨
      Account.Entry P (s.account K q) ⟨r.aht, r.counters, s.present K q⟩) : (s.setQueue q r).Booked P B K := by
  refine h.advance (fun _ lists => lists.congr (fun x => ?_) fun _ _ => ⟨rfl, rfl⟩) fun x => ?_
  · rw [State.queue_setQueue]
    split
    case isTrue e => exact e ▸ waiting
    case isFalse => exact .refl _
  · have present : (s.setQueue q r).present K x = s.present K x := State.present_congr fun _ => Iff.rfl
    rw [State.account_eq (s.queue_setQueue q x r) present]
    split
    case isTrue e => exact e ▸ entry
    case isFalse => exact .inl rfl

/-- A call in QUEUED or OFFERED leaves its queue, which is counted, and stands aside. -/
theorem leaves (h : s.Booked P B []) {f : QueueCounters → QueueCounters} (present : (s.call k).PresentIn q)
    (entry : ∀ aht c n, Account.Entry P ⟨aht, c, n + 1⟩ ⟨aht, f c, n⟩)
    (queue : ∀ r, t.queue r = { (s.count q f).queue r with waiting := (t.queue r).waiting })
    (waiting : s.Listed [] → ∀ r, (t.queue r).waiting = (s.queue r).waiting.erase k)
    (calls : ∀ j, j ≠ k → (s.call j).SameStanding (t.call j)) :
    t.Booked P B [k] := by
  refine h.advance (fun _ lists => lists.leave (waiting lists) calls) fun r => ?_
  have others : t.present [k] r = s.present [k] r := State.present_congr fun j => and_congr_right fun hj => by
    obtain ⟨state, own⟩ := calls j (by simpa using hj)
    rw [Call.PresentIn, state, own, Call.PresentIn]
  rw [State.account_eq (queue r) others, State.count, State.queue_setCounters]
  split
  case isTrue e =>
    rw [State.account, ← e, State.present_aside present]
    exact .inr (entry _ _ _)
  case isFalse e =>
    rw [State.present_aside_other fun p => e (present.2.symm.trans p.2)]
    exact .inl rfl

/-- A call that is in no queue stands aside. -/
theorem setAside (h : s.Booked P B []) (absent : (s.call k).Absent) : s.Booked P B [k] := by
  refine h.advance (fun _ lists => lists.setAside absent.1) fun q => .inl ?_
  rw [State.account, State.present_aside_other (absent.not_presentIn q), State.account]

/-- A call that stood aside is in no queue. -/
theorem putBack (h : s.Booked P B [k]) (absent : (s.call k).Absent) : s.Booked P B [] := by
  refine h.advance (fun _ lists => lists.putBack) fun q => .inl ?_
  rw [State.account, ← State.present_aside_other (absent.not_presentIn q), State.account]

/-! ### Records written -/

theorem setCall (h : s.Booked P B K) {c : Call}
    (keeps : k ∉ K → (s.call k).SameStanding c) : (s.setCall k c).Booked P B K := by
  refine h.same (fun _ => rfl) fun j hj => ?_
  rw [State.call_setCall]
  split
  case isTrue e => subst e; exact keeps hj
  case isFalse => exact ⟨rfl, rfl⟩

theorem setCall_aside (h : s.Booked P B [k]) {c : Call} : (s.setCall k c).Booked P B [k] :=
  h.setCall fun outside => absurd List.mem_cons_self outside

theorem setAgent (h : s.Booked P B K) {a : AgentId} {g : Agent} : (s.setAgent a g).Booked P B K := h.of_tables rfl rfl

theorem setWaiting (h : s.Booked P B K) {l : List CallId} (perm : l.Perm (s.queue q).waiting) :
    (s.setWaiting q l).Booked P B K := h.setQueue perm (.inl rfl)

/-- A call under offer goes back to QUEUED in its queue's list (R86). -/
theorem requeued (h : s.Booked P B []) (offered : (s.call k).state = .OFFERED) {c : Call}
    (queued : c.state = .QUEUED) (own : c.queue = (s.call k).queue) :
    ((s.setCall k c).enterList (s.call k).queue k).Booked P B [] := by
  have self : ((s.setCall k c).enterList (s.call k).queue k).call k = c := by simp [State.enterList]
  have others : ∀ j, j ≠ k → ((s.setCall k c).enterList (s.call k).queue k).call j = s.call j := fun j hj => by
    simp [State.enterList, Ne.symm hj]
  have queue : ∀ r, ((s.setCall k c).enterList (s.call k).queue k).queue r =
      if (s.call k).queue = r then { s.queue (s.call k).queue with
        waiting := (s.setCall k c).keyedInsert (s.queue (s.call k).queue).params.classBoost k
          (s.queue (s.call k).queue).waiting }
      else s.queue r := fun r => by simp [State.enterList]
  refine h.advance (fun _ lists => (lists.setAside (k := k) (by rw [offered]; decide)).enter
    (q := (s.call k).queue) ?_ (fun r hr => ?_) ?_ fun j hj => ?_) fun r => .inl ?_
  · rw [queue, if_pos rfl]
    exact State.keyedInsert_perm _ _ _ _
  · rw [queue, if_neg (Ne.symm hr)]
  · rw [self]
    exact ⟨queued, own⟩
  · rw [others j hj]
    exact ⟨rfl, rfl⟩
  · have present : ((s.setCall k c).enterList (s.call k).queue k).present [] r = s.present [] r := by
      refine State.present_congr fun j => and_congr_right fun _ => ?_
      by_cases hj : j = k
      · rw [hj, self, Call.PresentIn, Call.PresentIn, queued, own, offered]
        simp
      · rw [others j hj]
    rw [State.account, present, queue, State.account]
    split
    case isTrue e => rw [e]
    case isFalse => rfl

end State.Booked
end
end Sys2Proof.Machine
end

section
/-! PROOFS. The operations on calls and queues as entries in the books: offers, joins, departures, abandonments, answers
and wraps, and the operations that make none (chapters 1 to 5 and 8). -/

namespace Sys2Proof.Machine

section
variable {P : Prop} {B : QueueId → Account} {K : List CallId} {s t : State} {q : QueueId} {k : CallId} {a : AgentId}

/-- The freeing of a slot changes nothing of a queue but its list (R30). -/
theorem State.freeCall_queue (s : State) (k : CallId) (r : QueueId) :
    (s.freeCall k).queue r = { s.queue r with waiting := ((s.freeCall k).queue r).waiting } := by
  by_cases queued : (s.call k).state = .QUEUED
  · rw [s.freeCall_queue_queued k queued]
    split <;> rfl
  · unfold State.queue
    rw [s.freeCall_queues k queued]

/-- Where the lists hold what they should, a freed call has left every one of them. -/
theorem State.Listed.freeCall_waiting (h : s.Listed []) (r : QueueId) :
    ((s.freeCall k).queue r).waiting = (s.queue r).waiting.erase k := by
  by_cases queued : (s.call k).state = .QUEUED
  · rw [s.freeCall_queue_queued k queued]
    split
    case isTrue => rfl
    case isFalse e => rw [List.erase_of_not_mem fun m => e (h.queued r k m).2.2]
  · rw [List.erase_of_not_mem (h.not_mem queued r)]
    unfold State.queue
    rw [s.freeCall_queues k queued]

namespace State.Booked

/-! ### Notices, treatment and refusals -/

theorem notices (h : s.Booked P B K) (only : s.OnlyNotices t) : t.Booked P B K :=
  h.same (fun q => by unfold State.queue; rw [only.queues]) fun k _ => ⟨(only.calls k).state, (only.calls k).queue⟩

theorem drain (h : s.Booked P B K) : s.drain.Booked P B K := h.notices s.drain_only

theorem treated (h : s.Booked P B K) (only : s.OnlyTreatment t k) : t.Booked P B K := by
  refine h.same only.queue fun j _ => ?_
  by_cases hj : j = k
  · rw [hj, only.call]
    exact ⟨rfl, rfl⟩
  · rw [only.others j hj]
    exact ⟨rfl, rfl⟩

theorem markCall (h : s.Booked P B K) {kind : NoticeKind} : (s.markCall k kind).Booked P B K := by
  refine h.same (fun q => by rw [State.markCall_eq]; rfl) fun j _ => ?_
  rw [State.markCall_call]
  split
  case isTrue e => subst e; exact ⟨rfl, rfl⟩
  case isFalse => exact ⟨rfl, rfl⟩

theorem markAgent (h : s.Booked P B K) : (s.markAgent a).Booked P B K := by
  rw [State.markAgent_eq]
  exact h.of_tables rfl rfl

/-- A walk writes diverted counters alone (R9 to R11). -/
theorem diverted (h : s.Booked P B K) (only : s.OnlyDiverted t) : t.Booked P B K := by
  refine h.advance (fun _ lists => lists.congr (fun q => .of_eq (by rw [only.queue])) fun k _ => ?_) fun q => .inr ?_
  · rw [only.call]
    exact ⟨rfl, rfl⟩
  · have present : t.present K q = s.present K q := State.present_congr fun k => by rw [only.call]
    rw [State.account_eq (only.queue q) present]
    exact .diverted (s.account K q) _

/-! ### Offers and selection -/

/-- An offer of a waiting call leaves it present, where the lists hold what they should (R24, R76). -/
theorem offer (h : s.Booked P B []) (waits : k ∈ (s.queue q).waiting) : (s.offer q k a).Booked P B [] := by
  have others : ∀ j, j ≠ k → (s.offer q k a).call j = s.call j := fun j hj => by
    rw [State.offer_call, if_neg (Ne.symm hj)]
  have self : ((s.offer q k a).call k).state = .OFFERED ∧ ((s.offer q k a).call k).queue = (s.call k).queue := by
    rw [State.offer_call, if_pos rfl]
    exact ⟨rfl, rfl⟩
  refine h.advance (fun _ lists => (lists.leave (k := k) (fun r => ?_) fun j hj => ?_).putBack) fun r => ?_
  · rw [State.offer_queue]
    split
    case isTrue e => rw [e]
    case isFalse e =>
      rw [List.erase_of_not_mem fun m => e ((lists.queued q k waits).2.2.symm.trans (lists.queued r k m).2.2)]
  · rw [others j hj]
    exact ⟨rfl, rfl⟩
  · have account : (s.offer q k a).account [] r = { s.account [] r with present := (s.offer q k a).present [] r } := by
      rw [State.account, State.offer_queue]
      split
      case isTrue e => rw [e]; rfl
      case isFalse => rfl
    rw [account]
    by_cases queued : (s.call k).state = .QUEUED
    · have present : (s.offer q k a).present [] r = s.present [] r :=
        State.present_congr fun j => and_congr_right fun _ => by
          by_cases hj : j = k
          · rw [hj, Call.PresentIn, self.1, self.2, Call.PresentIn, queued]
            simp
          · rw [others j hj]
      exact .inl (by rw [present]; rfl)
    · exact .inr (.astray _ _ fun p => queued ((h.lists p).queued q k waits).2.1)

theorem sweep (h : s.Booked P B []) : (s.sweep q).Booked P B [] :=
  State.sweep_induct (State.Booked P B []) q (fun _ _ _ _ ht head _ => ht.offer (head ▸ List.mem_cons_self)) s h

theorem select (h : s.Booked P B []) : (s.select a).Booked P B [] := by
  rcases s.select_cases a with same | ⟨q, k, rest, -, head, offered⟩
  · rw [same]
    exact h
  · rw [offered]
    exact h.offer (head ▸ List.mem_cons_self)

theorem setReadyList (h : s.Booked P B K) {l : List AgentId} : (s.setReadyList l).Booked P B K := h.of_tables rfl rfl

theorem enterReady (h : s.Booked P B []) {since : Nat} : (s.enterReady a since).Booked P B [] :=
  h.setAgent.setReadyList.select

theorem returnAgent (h : s.Booked P B []) {since : Nat} : (s.returnAgent a since).Booked P B [] := h.setAgent.enterReady

/-! ### Joins and departures -/

/-- A call that stands aside joins a queue (R26). -/
theorem join (h : s.Booked P B [k]) : (s.join k q).Booked P B [] := by
  have others : ∀ j, j ≠ k → (s.join k q).call j = s.call j := fun j hj => by
    rw [State.join_call, if_neg (Ne.symm hj)]
  have self : ((s.join k q).call k).state = .QUEUED ∧ ((s.join k q).call k).queue = q := by
    rw [State.join_call, if_pos rfl]
    exact ⟨rfl, rfl⟩
  have aside : ∀ r, (s.join k q).present [k] r = s.present [k] r := fun r =>
    State.present_congr fun j => and_congr_right fun hj => by rw [others j (by simpa using hj)]
  refine h.advance (fun _ lists => lists.enter (s.join_waiting k q)
    (fun r hr => by rw [State.join_queue_other _ _ _ hr]) self fun j hj => ?_) fun r => ?_
  · rw [others j hj]
    exact ⟨rfl, rfl⟩
  · by_cases hr : r = q
    · rw [hr, State.account_eq (s.join_queue_self k q) (State.present_aside ⟨.inl self.1, self.2⟩), aside]
      exact .inr (.joined (s.account [k] q))
    · have elsewhere : ¬ ((s.join k q).call k).PresentIn r := fun p => hr (p.2.symm.trans self.2)
      rw [State.account_eq (s.join_queue_other k q hr) (State.present_aside_other elsewhere).symm, aside]
      exact .inl rfl

theorem settleJoin (h : s.Booked P B []) : (s.settleJoin k q).Booked P B [] := by
  unfold State.settleJoin
  dsimp only
  split
  · exact h.sweep.treated (State.beginTreatment_only _ k)
  · exact h.sweep

theorem countMove (h : s.Booked P B [k]) : (s.countMove k).Booked P B [k] := h.setCall_aside

theorem markMoved (h : s.Booked P B [k]) {old : QueueId} : (s.markMoved k old).Booked P B [k] :=
  h.setCall_aside.markCall

/-- A call that leaves its queue for another is counted as moved out (R35, R39). -/
theorem departQueue (h : s.Booked P B []) (present : (s.call k).PresentIn (s.call k).queue) {overflow : Bool} :
    (s.departQueue k overflow).Booked P B [k] := by
  have only := s.endTreatment_only k
  have ended := h.treated only
  have kept : ((s.endTreatment k).call k).PresentIn (s.call k).queue := by
    rw [only.call]
    exact present
  unfold State.departQueue
  dsimp only
  generalize s.endTreatment k = u at ended kept
  generalize (s.call k).queue = old at kept
  refine ended.leaves (f := (·.addMovedOut overflow)) kept (fun _ _ _ => .movedOut _ _ _ overflow) (fun r => ?_)
    (fun lists r => ?_) fun _ _ => ⟨rfl, rfl⟩
  · simp only [State.count, State.leaveList, State.queue_setCounters, State.queue_setWaiting, if_true]
    split <;> rfl
  · simp only [State.count, State.leaveList, State.queue_setCounters, State.queue_setWaiting, if_true]
    split
    case isTrue e => rw [e]
    case isFalse e => rw [List.erase_of_not_mem fun m => e (kept.2.symm.trans (lists.queued r k m).2.2)]

/-! ### Moves -/

theorem overflowMove (h : s.Booked P B []) (present : (s.call k).PresentIn (s.call k).queue) {target : QueueId} :
    (s.overflowMove k target).Booked P B [] := (h.departQueue present).countMove.markMoved.join.settleJoin

theorem moveQueued (h : s.Booked P B []) (queued : (s.call k).state = .QUEUED) : (s.moveQueued k q).Booked P B [] :=
  (h.departQueue ⟨.inl queued, rfl⟩).countMove.join.settleJoin

theorem requeue (h : s.Booked P B []) (absent : (s.call k).Absent) : (s.requeue k q).Booked P B [] :=
  (h.setAside absent).setCall_aside.countMove.join.settleJoin

theorem arrive (h : s.Booked P B []) (free : (s.call k).state = .FREE) {callerTag : Word} {cls : Nat} :
    (s.arrive k q callerTag cls).Booked P B [] :=
  (h.setAside (k := k) ⟨by rw [free]; decide, by rw [free]; decide⟩).setCall_aside.join.settleJoin

theorem overflowAttempt (h : s.Booked P B []) (queued : (s.call k).state = .QUEUED) :
    (s.overflowAttempt k).Booked P B [] := by
  unfold State.overflowAttempt
  split
  case h_2 => exact h
  case h_1 =>
  split
  · exact h.overflowMove ⟨.inl queued, rfl⟩
  · exact (h.diverted (s.divert_only _)).setCall fun _ => ⟨rfl, rfl⟩

/-! ### Withdrawals -/

theorem withdraw (h : s.Booked P B K) : (s.withdraw k a).Booked P B K :=
  (h.setCall (k := k) (c := { s.call k with
    agent := none, savedReadySince := none, offerDeadline := none, offerPosted := false
    withdrawnAgent := some a }) fun _ => ⟨rfl, rfl⟩).markCall

theorem returnCall (h : s.Booked P B []) (offered : (s.call k).state = .OFFERED) :
    (s.returnCall k).Booked P B [] := by
  have returned := h.requeued (c := { s.call k with state := .QUEUED, overflowDue := false }) offered rfl rfl
  unfold State.returnCall
  dsimp only
  split
  · exact (returned.treated (State.beginTreatment_only _ k)).sweep
  · exact returned.sweep

/-- A withdrawn call, which is still under offer, overflows or returns (R84, R85). -/
theorem settleWithdrawn (h : s.Booked P B []) (offered : (s.call k).state = .OFFERED) :
    (s.settleWithdrawn k).Booked P B [] := by
  unfold State.settleWithdrawn
  dsimp only
  split
  case isFalse => exact h.returnCall offered
  case isTrue =>
  split
  case h_2 => exact h.returnCall offered
  case h_1 x _ =>
  split
  · exact h.overflowMove ⟨.inr offered, rfl⟩
  · have only := s.divert_only x
    have spent := (h.diverted only).setCall (k := k) (c := { (s.divert x).call k with overflowSpent := true })
      fun _ => ⟨rfl, rfl⟩
    refine spent.returnCall ?_
    rw [State.call_setCall, if_pos rfl, only.call]
    exact offered

theorem releaseAgent (h : s.Booked P B K) : (s.releaseAgent a).Booked P B K := h.setAgent.markAgent

/-! ### Endings and answers -/

/-- The slot of a CONNECTED call, which is in no queue, is freed (R33). -/
theorem freeCall (h : s.Booked P B []) (connected : (s.call k).state = .CONNECTED) :
    (s.freeCall k).Booked P B [] := by
  have aside := h.setAside (k := k) ⟨by rw [connected]; decide, by rw [connected]; decide⟩
  have queues : (s.freeCall k).queues = s.queues := s.freeCall_queues k (by rw [connected]; decide)
  refine (aside.same (fun q => by unfold State.queue; rw [queues]) fun j hj => ?_).putBack (k := k) ?_
  · rw [State.freeCall_call, if_neg (Ne.symm (by simpa using hj))]
    exact ⟨rfl, rfl⟩
  · rw [State.freeCall_call, if_pos rfl]
    exact ⟨nofun, nofun⟩

/-- An abandonment is counted against the queue that the freed call leaves (R31, R32). -/
theorem abandon (h : s.Booked P B []) (present : (s.call k).PresentIn (s.call k).queue) :
    ((s.countAbandoned k).freeCall k).Booked P B [] := by
  have call := (s.countAbandoned k).freeCall_call k
  have counted : ∀ r, ((s.countAbandoned k).queue r).waiting = (s.queue r).waiting := fun r => by
    simp only [State.countAbandoned, State.count, State.queue_setCounters]
    split
    case isTrue e => rw [e]
    case isFalse => rfl
  refine (h.leaves (k := k) present (fun _ _ _ => .abandoned _ _ _ _) ((s.countAbandoned k).freeCall_queue k)
    (fun lists r => ?_) fun j hj => ?_).putBack ?_
  · rw [(lists.congr (fun r => .of_eq (counted r)) fun _ _ => ⟨rfl, rfl⟩).freeCall_waiting, counted]
  · rw [call, if_neg (Ne.symm hj)]
    exact ⟨rfl, rfl⟩
  · rw [call, if_pos rfl]
    exact ⟨nofun, nofun⟩

/-- An answer takes the call from its queue (R81, R82). -/
theorem answer (h : s.Booked P B []) (offered : (s.call k).state = .OFFERED) : (s.answer k a).Booked P B [] := by
  have call := s.answer_call k a
  refine (h.leaves (t := s.answer k a) (f := (·.addAnswered
    (decide (s.rawWait k ≤ (s.queue (s.call k).queue).params.serviceTarget)) (s.rawWait k))) ⟨.inr offered, rfl⟩
    (fun _ _ _ => .answered _ _ _ _ _) (fun r => ?_) (fun lists r => ?_) fun j hj => ?_).putBack ?_
  · rw [State.answer_queue, State.count, State.queue_setCounters]
    split
    case isTrue e => rw [e]; rfl
    case isFalse => rfl
  · rw [List.erase_of_not_mem (lists.not_mem (by rw [offered]; decide) r), State.answer_queue]
    split <;> rfl
  · rw [call, if_neg (Ne.symm hj)]
    exact ⟨rfl, rfl⟩
  · rw [call, if_pos rfl]
    exact ⟨nofun, nofun⟩

/-! ### Wraps -/

theorem enterWrap (h : s.Booked P B K) {talk : Nat} : (s.enterWrap a q talk).Booked P B K := h.setAgent

/-- The hand-over of a wrap counts it and updates the AHT (R100, R116). -/
theorem countWrap (h : s.Booked P B K) {talk w : Nat} : (s.countWrap q talk w).Booked P B K := by
  rw [State.countWrap_eq]
  exact h.setQueue (.refl _) (.inr (.wrapEnded (s.account K q) talk w))

theorem marksExpiry (h : s.Booked P B K) {expiry : Bool} : (if expiry then s.markAgent a else s).Booked P B K := by
  split
  · exact h.markAgent
  · exact h

theorem endWrap (h : s.Booked P B []) {expiry : Bool} : (s.endWrap a expiry).Booked P B [] := by
  obtain ⟨t, wrapped, ends⟩ := s.endWrap_cases a expiry
  have counted : t.Booked P B [] := wrapped ▸ h.countWrap.setAgent
  rw [ends]
  split
  · exact counted.marksExpiry.enterReady
  · exact counted.setAgent.marksExpiry
  · exact counted.setAgent.marksExpiry

theorem endWrapAtEntry (h : s.Booked P B []) : (s.endWrapAtEntry a q).Booked P B [] := by
  unfold State.endWrapAtEntry
  split
  · exact h.endWrap
  · exact h

theorem wrapTransfer (h : s.Booked P B []) {agent : Option AgentId} {talk : Nat} :
    (s.wrapTransfer agent q talk).Booked P B [] := by
  unfold State.wrapTransfer
  split
  · exact h.enterWrap.endWrapAtEntry
  · exact h

/-- An accepted C_MOVE moves a QUEUED call or transfers a CONNECTED one (R35, R36). -/
theorem moveTo (h : s.Booked P B []) (waits : (s.call k).state ≠ .OFFERED) : (s.moveTo k q).Booked P B [] := by
  unfold State.moveTo
  dsimp only
  split
  case isTrue queued => exact h.moveQueued queued
  case isFalse other => exact (h.requeue ⟨other, waits⟩).wrapTransfer

end State.Booked
end
end Sys2Proof.Machine
end

section
/-! PROOFS. Classes, definitions, modes, the changes of agents and frames as entries in the books (chapters 1 to 3, 8
and 9). -/

namespace Sys2Proof.Machine

/-- An initial AHT is clamped at a first definition (R13, R14). -/
theorem qDefineOf_initialAht {q : QueueId} {p : QDefineWords} {d : QDefinition} (h : qDefineOf q false p = some d) :
    1 ≤ d.initialAht ∧ d.initialAht ≤ 3600 := by
  unfold qDefineOf at h
  split at h
  case h_1 => exact nomatch h
  case h_2 => exact Option.some.inj h ▸ clamp_mem 1 3600 _ (by decide)

section
variable {P : Prop} {B : QueueId → Account} {K : List CallId} {s t : State} {q : QueueId} {k : CallId} {a : AgentId}

namespace State.Booked

/-! ### Classes, definitions and modes -/

theorem resort (h : s.Booked P B K) : (s.resort q).Booked P B K := h.setWaiting (State.inOrder_perm _ _ _)

theorem reclass (h : s.Booked P B []) {cls : Nat} : (s.reclass k cls).Booked P B [] := by
  have classed : (s.setCall k { s.call k with cls := cls }).Booked P B [] := h.setCall fun _ => ⟨rfl, rfl⟩
  unfold State.reclass
  dsimp only
  split
  case isFalse => exact classed
  case isTrue =>
  split
  · exact classed.resort
  · exact classed.resort.sweep

theorem retune (h : s.Booked P B K) {programme : Option ProgrammeId} : (State.retune programme s k).Booked P B K := by
  have tuned : ∀ audio channel, (s.setCall k { s.call k with audio := audio, channel := channel }).Booked P B K :=
    fun _ _ => h.setCall fun _ => ⟨rfl, rfl⟩
  unfold State.retune
  split
  case h_1 => exact (tuned _ _).markCall
  case h_2 => exact (tuned _ _).markCall
  case h_3 => exact (tuned _ _).markCall
  all_goals exact h

theorem reschedule (h : s.Booked P B K) {before after : Bool} {interval : Nat} :
    (State.reschedule before after interval s k).Booked P B K := by
  have scheduled : ∀ next, (s.setCall k { s.call k with nextAnnouncement := next }).Booked P B K :=
    fun _ => h.setCall fun _ => ⟨rfl, rfl⟩
  unfold State.reschedule
  dsimp only
  split
  case isTrue => exact scheduled _
  case isFalse =>
  split
  case isFalse => exact h
  case isTrue =>
  split
  · exact scheduled _
  · exact h

theorem unspend (h : s.Booked P B K) : (s.unspend k).Booked P B K := h.setCall fun _ => ⟨rfl, rfl⟩

/-- What one call's change keeps, the changes of a list of calls keep. -/
theorem each (h : s.Booked P B K) {f : State → CallId → State} (keeps : ∀ t k, t.Booked P B K → (f t k).Booked P B K)
    (l : List CallId) : (l.foldl f s).Booked P B K := List.foldlRecOn l f h fun t ht k _ => keeps t k ht

/-- A first definition seeds the AHT, any other leaves it (R14). -/
theorem parametersStored (h : s.Booked P B K) {d : QDefinition}
    (range : (s.queue q).defined = false → 1 ≤ d.initialAht ∧ d.initialAht ≤ 3600) :
    (s.parametersStored q d).Booked P B K := by
  refine h.setQueue (s.listRedefined_perm q d) ?_
  unfold Queue.define
  by_cases defined : (s.queue q).defined = true
  · rw [if_pos defined]
    exact .inl rfl
  · rw [if_neg defined]
    exact .inr (.seeded (s.account K q) (range (by simpa using defined)))

theorem define (h : s.Booked P B []) {d : QDefinition}
    (range : (s.queue q).defined = false → 1 ≤ d.initialAht ∧ d.initialAht ≤ 3600) :
    (s.define q d).Booked P B [] := by
  have retuned : (s.retunedFor q d).Booked P B [] := by
    unfold State.retunedFor
    dsimp only
    split
    · exact h.parametersStored range
    · exact (h.parametersStored range).each (fun _ _ ht => ht.retune) _
  have rescheduled : (s.rescheduledFor q d).Booked P B [] := retuned.each (fun _ _ ht => ht.reschedule) _
  rw [State.define_eq]
  refine State.Booked.sweep ?_
  unfold State.redefined
  dsimp only
  split
  · exact rescheduled
  · exact rescheduled.each (fun _ _ ht => ht.unspend) _

theorem changeMode (h : s.Booked P B []) {m : QMode} : (s.changeMode q m).Booked P B [] := by
  have written : (s.setQueue q { s.queue q with mode := m }).Booked P B [] := h.setQueue (.refl _) (.inl rfl)
  unfold State.changeMode
  dsimp only
  split
  · exact written.sweep
  · exact written

/-! ### Agents -/

theorem login (h : s.Booked P B []) {station : Nat} {skills : List Skill} {away : Option (Fin 16)} :
    (s.login a station skills away).Booked P B [] := by
  unfold State.login
  dsimp only
  split
  · exact h.setAgent.enterReady
  · exact h.setAgent.setAgent

theorem logout (h : s.Booked P B K) (done : s.logout a = some t) : t.Booked P B K := by
  unfold State.logout at done
  split at done <;> obtain ⟨⟩ := done
  · exact h.setAgent.setAgent
  · exact h.setReadyList.setAgent
  · exact h.setAgent
  · exact h.setAgent

theorem setReady (h : s.Booked P B []) (done : s.setReady a = some t) : t.Booked P B [] := by
  unfold State.setReady at done
  split at done <;> obtain ⟨⟩ := done
  · exact State.Booked.enterReady h.setAgent
  · exact h
  · exact h.setAgent
  · exact State.Booked.endWrap h.setAgent

theorem setAway (h : s.Booked P B K) {r : Fin 16} (done : s.setAway a r = some t) : t.Booked P B K := by
  unfold State.setAway at done
  split at done
  case h_1 => exact nomatch done
  case h_2 => exact Option.some.inj done ▸ h.setAgent
  case h_3 => exact Option.some.inj done ▸ h.setReadyList.setAgent
  case h_4 => exact nomatch done
  all_goals
    split at done
    · exact nomatch done
    · exact Option.some.inj done ▸ h.setAgent

theorem reskill (h : s.Booked P B []) {skills : List Skill} : (s.reskill a skills).Booked P B [] := by
  unfold State.reskill
  dsimp only
  split
  · exact State.Booked.select h.setAgent
  · exact h.setAgent

/-! ### Frames and announcements -/

theorem endScript (h : s.Booked P B K) {p : PoolId} : (s.endScript p).Booked P B K := by
  have idle : (s.setPool p .idle).Booked P B K := h.of_tables rfl rfl
  unfold State.endScript
  dsimp only
  split
  · exact idle.treated (State.resumeMusic_only _ _)
  · exact idle

theorem sendFrame (h : s.Booked P B K) : s.sendFrame.Booked P B K := by
  have sent : ∀ u, ((s.setFrame s.samples (s.framesSent + 1)).setTreatment u).Booked P B K := fun _ =>
    h.of_tables rfl rfl
  unfold State.sendFrame
  dsimp only
  split
  · exact sent _
  · exact State.Booked.drain (List.foldlRecOn _ State.endScript (sent _) fun _ ht _ _ => ht.endScript)

theorem announce (h : s.Booked P B K) {due : Nat} : (s.announce k due).Booked P B K := by
  have skipped : (s.skipAnnouncement k due).Booked P B K := h.setCall fun _ => ⟨rfl, rfl⟩
  unfold State.announce
  dsimp only
  split
  case isFalse => exact skipped
  case isTrue =>
  split
  case h_1 => exact (h.treated (State.takePlayer_only _ k _ _ _)).drain
  case h_2 => exact skipped

theorem sameTables (h : s.Booked P B K) (same : s.SameTables t) : t.Booked P B K := h.of_tables same.queues same.calls

theorem settleSecond (h : s.Booked P B K) : s.settleSecond.Booked P B K := h.sameTables s.settleSecond_sameTables

theorem enterLocked (h : s.Booked P B K) {position : Nat} : (s.enterLocked position).Booked P B K := by
  have sent := h.settleSecond.sendFrame
  unfold State.enterLocked
  dsimp only
  generalize s.settleSecond.sendFrame = u at sent
  exact sent.of_tables rfl rfl

end State.Booked
end
end Sys2Proof.Machine
end

section
/-! PROOFS. O53 and O60: every command enters what it does in the books, so the AHT stays in its range and the counters
in their balance and order (R108, R109, R117). -/

namespace Sys2Proof.Machine

section
variable {P : Prop} {B : QueueId → Account} {K : List CallId} {s t : State}

/-- With every call gone, every queue as after power-on. -/
theorem State.Booked.emptied (h : s.Booked P B []) (queue : ∀ q, t.queue q = .reset)
    (calls : ∀ k, (t.call k).state = .FREE) : t.Booked P B [] := by
  have none : ∀ q, t.present [] q = 0 := fun q => State.present_eq_zero fun k =>
    Call.Absent.not_presentIn ⟨by rw [calls]; decide, by rw [calls]; decide⟩ q
  refine h.advance (fun _ _ => ⟨fun q => ?_, fun q k m => ?_⟩) fun q => .inr ?_
  · rw [queue]
    exact .nil
  · rw [queue] at m
    exact absurd m List.not_mem_nil
  · rw [State.account_eq (queue q) (none q)]
    exact .reset _

namespace State.Booked

/-! ### The bodies of the requests -/

theorem qDefineBody (h : s.Booked P B []) (p : QDefineWords) : (State.qDefineBody p s).1.Booked P B [] := by
  unfold State.qDefineBody
  split
  case h_1 => exact h
  case h_2 q _ =>
  split
  case h_1 => exact h
  case h_2 defined => exact (h.define fun first => qDefineOf_initialAht (first ▸ defined)).drain

theorem qModeBody (h : s.Booked P B []) (queue mode : Word) : (State.qModeBody queue mode s).1.Booked P B [] := by
  unfold State.qModeBody
  split
  case h_2 => exact h
  case h_1 =>
  split
  · exact h.changeMode.drain
  · exact h

/-- A clear enters the calls present (R111). -/
theorem qCountersBody (h : s.Booked P B []) (agree : P → s.RecordsAgree) (queue clear : Word) :
    (State.qCountersBody queue clear s).1.Booked P B [] := by
  unfold State.qCountersBody
  split
  case h_1 => exact h
  case h_2 q _ =>
  split
  case isFalse => exact h
  case isTrue =>
  dsimp only
  split
  · exact h.setQueue (.refl _) (.inr (.cleared (s.account [] q) fun p => (agree p).occupancy_eq q))
  · exact h

theorem cArriveBody (h : s.Booked P B []) (callerTag queue cls : Word) :
    (State.cArriveBody callerTag queue cls s).1.Booked P B [] := by
  unfold State.cArriveBody
  split
  case h_1 => exact h
  case h_2 q _ =>
  split
  case isTrue => exact h
  case isFalse =>
  split
  case h_1 => exact h
  case h_2 k slot =>
  have only : s.OnlyDiverted (s.walk [] q).1 := State.walkBy_only 4 [] q s
  have free : ((s.walk [] q).1.call k).state = .FREE := by
    rw [only.call]
    exact ((s.freeSlot_eq_some k).mp slot).1
  have walked := h.diverted only
  dsimp only
  generalize s.walk [] q = r at walked free
  split
  case h_1 => exact walked
  case h_2 => exact (walked.arrive free).drain

theorem cAnswerBody (h : s.Booked P B []) (handle agent : Word) :
    (State.cAnswerBody handle agent s).1.Booked P B [] := by
  unfold State.cAnswerBody
  split
  case h_1 => exact h
  case h_2 =>
  split
  case h_1 => exact h
  case h_2 =>
  split
  case isTrue holds => exact h.answer holds.1
  case isFalse => exact h

theorem cEndBody (h : s.Booked P B []) (handle : Word) : (State.cEndBody handle s).1.Booked P B [] := by
  unfold State.cEndBody
  split
  case h_1 => exact h
  case h_2 k _ =>
  dsimp only
  split
  case h_1 => exact h
  case h_2 queued => exact h.abandon ⟨.inl queued, rfl⟩
  case h_3 offered =>
    refine State.Booked.drain ?_
    split
    · exact (h.abandon ⟨.inr offered, rfl⟩).returnAgent
    · exact h.abandon ⟨.inr offered, rfl⟩
  case h_4 connected =>
    refine State.Booked.drain ?_
    split
    case h_1 a _ => exact (h.enterWrap.freeCall connected).endWrapAtEntry
    case h_2 => exact h.freeCall connected

theorem cMoveBody (h : s.Booked P B []) (handle queue : Word) : (State.cMoveBody handle queue s).1.Booked P B [] := by
  unfold State.cMoveBody
  split
  case h_1 => exact h
  case h_2 k _ =>
  split
  case h_1 => exact h
  case h_2 q _ =>
  split
  case isTrue => exact h
  case isFalse notOffered =>
  split
  case isTrue => exact h
  case isFalse =>
  split
  case isTrue => exact h
  case isFalse =>
  generalize (if (s.call k).state = .QUEUED then [(s.call k).queue] else []) = visited
  have only : s.OnlyDiverted (s.walk visited q).1 := State.walkBy_only 4 visited q s
  dsimp only
  split
  case h_1 => exact h.diverted only
  case h_2 => exact ((h.diverted only).moveTo (by rw [only.call]; exact notOffered)).drain

theorem cClassBody (h : s.Booked P B []) (handle cls : Word) : (State.cClassBody handle cls s).1.Booked P B [] := by
  unfold State.cClassBody
  split
  case h_1 => exact h
  case h_2 => exact h.reclass.drain

theorem aLoginBody (h : s.Booked P B []) (agent station initial reason : Word) (skills : List Word) :
    (State.aLoginBody agent station initial reason skills s).1.Booked P B [] := by
  unfold State.aLoginBody
  split
  case h_2 => exact h
  case h_1 =>
  split
  case isTrue => exact h
  case isFalse =>
  split
  case isTrue => exact h
  case isFalse =>
  split
  · exact h
  · exact h.login.drain

theorem aLogoutBody (h : s.Booked P B []) (agent : Word) : (State.aLogoutBody agent s).1.Booked P B [] := by
  unfold State.aLogoutBody
  split
  case h_1 => exact h
  case h_2 =>
  split
  case h_1 done => exact h.logout done
  case h_2 => exact h

theorem aSetBody (h : s.Booked P B []) (agent target reason expected : Word) :
    (State.aSetBody agent target reason expected s).1.Booked P B [] := by
  unfold State.aSetBody
  split
  case h_1 => exact h
  case h_2 =>
  dsimp only
  split
  case h_1 => exact h
  case h_2 =>
  split
  case isTrue => exact h
  case isFalse =>
  split
  case h_1 =>
    split
    case h_1 done => exact (h.setReady done).drain
    case h_2 => exact h
  case h_2 =>
    split
    case h_1 done => exact h.setAway done
    case h_2 => exact h

theorem aSkillsBody (h : s.Booked P B []) (agent : Word) (skills : List Word) :
    (State.aSkillsBody agent skills s).1.Booked P B [] := by
  unfold State.aSkillsBody
  split
  · exact h.reskill.drain
  · exact h

theorem aCountersBody (h : s.Booked P B []) (agent clear : Word) :
    (State.aCountersBody agent clear s).1.Booked P B [] := by
  unfold State.aCountersBody
  split
  case h_1 => exact h
  case h_2 =>
  dsimp only
  split
  · exact h.setAgent
  · exact h

theorem wExtendBody (h : s.Booked P B []) (agent seconds : Word) :
    (State.wExtendBody agent seconds s).1.Booked P B [] := by
  unfold State.wExtendBody
  split
  case h_1 => exact h
  case h_2 =>
  dsimp only
  split
  · exact h.setAgent
  · exact h

theorem wEndBody (h : s.Booked P B []) (agent : Word) : (State.wEndBody agent s).1.Booked P B [] := by
  unfold State.wEndBody
  split
  case h_1 => exact h
  case h_2 =>
  dsimp only
  split
  · exact h.endWrap.drain
  · exact h

/-! ### Frames, notices and expiries -/

theorem takeRequest (h : s.Booked P B []) {b : Block} {body : State → State × Answer}
    (does : (body s).1.Booked P B []) : LeadsTo (State.Booked P B []) (takeRequest b s body) :=
  .takeRequest (fun _ r hu => hu.sameTables (State.toReply_sameTables _ r)) h does

theorem execTakenIndexWrite (h : s.Booked P B []) (value : Word) :
    LeadsTo (State.Booked P B []) (execTakenIndexWrite value s) := by
  have indexed : ∀ n, (s.setNotices n).Booked P B [] := fun _ => h.of_tables rfl rfl
  unfold Machine.execTakenIndexWrite
  dsimp only
  split
  case isFalse => exact .next h
  case isTrue =>
  refine .next ?_
  split
  · exact (indexed _).drain
  · exact indexed _

theorem execFrameSync (h : s.Booked P B []) (position : Nat) :
    LeadsTo (State.Booked P B []) (execFrameSync position s) := by
  have sent := h.settleSecond.sendFrame
  unfold Machine.execFrameSync
  dsimp only
  split
  case h_1 =>
    generalize s.settleSecond.sendFrame = u at sent
    exact .next (sent.of_tables rfl rfl)
  case h_2 => exact .next h
  case h_3 => exact .next h

theorem execHoldoverFrameSync (h : s.Booked P B []) (position : Nat) :
    LeadsTo (State.Booked P B []) (execHoldoverFrameSync position s) := by
  have counted : ∀ b, (s.setTimeBase b).Booked P B [] := fun _ => h.of_tables rfl rfl
  unfold Machine.execHoldoverFrameSync
  dsimp only
  split
  case h_2 => exact .next h
  case h_1 =>
  split
  case h_2 => exact .next (counted _)
  case h_1 =>
  split
  case isFalse => exact .next (counted _)
  case isTrue =>
  split
  · exact .next h.enterLocked
  · exact .next (counted _)

theorem execOfferExpiry (h : s.Booked P B []) (slot : CallId) :
    LeadsTo (State.Booked P B []) (execOfferExpiry slot s) := by
  unfold Machine.execOfferExpiry
  dsimp only
  split
  case h_2 => exact .next h
  case h_1 a _ =>
  split
  case isFalse => exact .next h
  case isTrue expires =>
    refine .next (h.releaseAgent.withdraw.settleWithdrawn ?_).drain
    rw [State.withdraw, State.markCall_call, if_pos rfl, State.call_setCall, if_pos rfl, State.releaseAgent,
      State.markAgent_eq]
    exact expires.1

theorem execOverflowExpiry (h : s.Booked P B []) (slot : CallId) :
    LeadsTo (State.Booked P B []) (execOverflowExpiry slot s) := by
  unfold Machine.execOverflowExpiry
  split
  case isFalse => exact .next h
  case isTrue =>
  split
  case isTrue queued => exact .next (h.overflowAttempt queued).drain
  case isFalse => exact .next (h.setCall fun _ => ⟨rfl, rfl⟩)

theorem execWrapExpiry (h : s.Booked P B []) (agent : AgentId) :
    LeadsTo (State.Booked P B []) (execWrapExpiry agent s) := by
  unfold Machine.execWrapExpiry
  split
  · exact .next h.endWrap.drain
  · exact .next h

theorem execAnnouncementDue (h : s.Booked P B []) (slot : CallId) :
    LeadsTo (State.Booked P B []) (execAnnouncementDue slot s) := by
  unfold Machine.execAnnouncementDue
  split
  case h_2 => exact .next h
  case h_1 =>
  split
  · exact .next h.announce
  · exact .next h

/-! ### Every command -/

theorem poweredOn (h : s.Booked P B []) : s.poweredOn.Booked P B [] := by
  refine h.emptied (fun q => ?_) fun k => ?_
  · simp [State.poweredOn, State.reset, State.queue]
  · simp [State.poweredOn, State.reset, State.call, Call.free]

theorem resetBlocks (h : s.Booked P B []) : s.resetBlocks.Booked P B [] := by
  refine h.emptied (fun q => ?_) fun k => ?_
  · simp [State.resetBlocks, State.queue]
  · rw [show s.resetBlocks.call k = (s.call k).portReset by simp [State.resetBlocks, State.call]]
    unfold Call.portReset
    split <;> rfl

end State.Booked

/-- Every command keeps the books; a Q_COUNTERS that clears asks for records in agreement. -/
theorem exec_booked (h : s.Booked P B []) (agree : P → s.RecordsAgree) (c : Instr) :
    LeadsTo (State.Booked P B []) (exec c s) := by
  have spared : c.sparesTables = true → LeadsTo (State.Booked P B []) (exec c s) := fun spares =>
    (exec_sameTables s spares).mono fun _ same => h.sameTables same
  cases c
  case powerOn => exact .next h.poweredOn
  case portReset => exact .next (h.sameTables (s.writeBus_sameTables _)).resetBlocks
  case takenIndexWrite value => exact h.execTakenIndexWrite value
  case qDefine => exact h.takeRequest (h.qDefineBody _)
  case qMode => exact h.takeRequest (h.qModeBody _ _)
  case qCounters => exact h.takeRequest (h.qCountersBody agree _ _)
  case cArrive => exact h.takeRequest (h.cArriveBody _ _ _)
  case cAnswer => exact h.takeRequest (h.cAnswerBody _ _)
  case cEnd => exact h.takeRequest (h.cEndBody _)
  case cMove => exact h.takeRequest (h.cMoveBody _ _)
  case cClass => exact h.takeRequest (h.cClassBody _ _)
  case aLogin => exact h.takeRequest (h.aLoginBody _ _ _ _ _)
  case aLogout => exact h.takeRequest (h.aLogoutBody _)
  case aSet => exact h.takeRequest (h.aSetBody _ _ _ _)
  case aSkills => exact h.takeRequest (h.aSkillsBody _ _)
  case aCounters => exact h.takeRequest (h.aCountersBody _ _)
  case wExtend => exact h.takeRequest (h.wExtendBody _ _)
  case wEnd => exact h.takeRequest (h.wEndBody _)
  case frameSync position => exact h.execFrameSync position
  case holdoverFrameSync position => exact h.execHoldoverFrameSync position
  case offerExpiry slot => exact h.execOfferExpiry slot
  case overflowExpiry slot => exact h.execOverflowExpiry slot
  case wrapExpiry agent => exact h.execWrapExpiry agent
  case announcementDue slot => exact h.execAnnouncementDue slot
  all_goals exact spared rfl

/-- Books opened with the accounts of a state are kept by its step: each account goes to the next state's by entries. -/
theorem step_booked (s : State) : LeadsTo (State.Booked s.RecordsAgree (s.account []) []) (step s) := by
  have opened : s.Booked s.RecordsAgree (s.account []) [] := ⟨State.RecordsAgree.lists, fun _ => .refl⟩
  unfold step
  split
  case h_1 => exact .next opened
  case h_2 c rest _ =>
    have given : s.RecordsAgree → (s.withPending rest).RecordsAgree := fun agree =>
      (agree.agreesBut.same (t := s.withPending rest) rfl rfl rfl rfl).recordsAgree
    have taken : (s.withPending rest).Booked s.RecordsAgree (s.account []) [] := opened.of_tables rfl rfl
    exact exec_booked taken given c

end

/-! ### The obligations -/

/-- Settles O53: the AHT of power-on is in its range, and no entry of a step and no update takes one out of it. -/
theorem ahtNeverLeavesItsRange : Obligations.AhtNeverLeavesItsRange := by
  refine ⟨fun q => ?_, fun s s' inRange run q => ?_, ?_⟩
  · rw [show State.reset.queue q = .reset by simp [State.reset, State.queue]]
    decide
  · exact Account.kept (Q := fun a => AhtRange a.aht) Account.Entry.ahtRange ((step_booked s s' run).entries q)
      (inRange q)
  · intro aht t w h
    have cases := ahtUpdate_cases aht t w
    omega

/-- Settles O60: with the records in agreement before and after the step, the calls present are the occupancy, and every
entry keeps the balance; the orderings are kept by every entry. -/
theorem countersStayBalanced : Obligations.CountersStayBalanced := by
  intro s s' run
  have entries := (step_booked s s' run).entries
  refine ⟨fun agree balanced q => ?_, fun ordered => s'.countersOrdered_iff.mpr fun q => ?_⟩
  · have before : (s.account [] q).Balanced := fun u => (balanced q u).trans (by rw [agree.occupancy_eq]; rfl)
    have after : (s'.account [] q).Balanced :=
      Account.kept (fun e h => Account.Entry.balanced e agree h) (entries q) before
    rw [(recordsStayInAgreement s s' agree run).1.occupancy_eq]
    exact after
  · exact Account.kept (Q := fun a => a.counters.Ordered) Account.Entry.ordered (entries q)
      (s.countersOrdered_iff.mp ordered q)

end Sys2Proof.Machine
end
